-- ==== Sys2Proof/Word.lean ====
section
/-! DEFINITION. The two word types of the CPU: bytes (registers, data bus) and words (program
counter, address bus), 00_scope.md R7 (`XLEN` = 8, `ALEN` = 16). Their arithmetic is that of
`BitVec`, which wraps as R11 asks. -/

namespace Sys2Proof

/-- A `u8` (00_scope.md R10). -/
abbrev Byte := BitVec 8

/-- A `u16` (00_scope.md R10). -/
abbrev Word := BitVec 16

end Sys2Proof
end

