-- ==== Sys2Proof/Config.lean ====
section
/-!
DEFINITION. What the spec leaves to the implementation or to the environment: the parameters of
00_scope.md R7, the free values (constants without a body, of which no proof can see a value), and
the types in which the environment agents (PPU, APU, mapper, host) speak to the CPU block.
-/

namespace Sys2Proof

/-! ## Parameters (00_scope.md R7) -/

/-- `REGION`. No CPU rule reads it. -/
inductive Region where
  | ntsc
  | pal
  | dendy
deriving DecidableEq, Repr

/-- `STEP_WHEN_CORRUPTED`: what a step does while `corrupted` is set (60_exceptions.md R329). -/
inductive StepWhenCorrupted where
  | refuse
  | continue
deriving DecidableEq, Repr

/-- The parameters a model takes as arguments (00_scope.md R7). They stand in State as plain data,
so that a statement about every state holds for every choice of them; no step changes them. -/
structure Params where
  region            : Region
  stepWhenCorrupted : StepWhenCorrupted
  xaaMagic          : Byte
  lxaMagic          : Byte
deriving DecidableEq, Repr

/-- The default parameters of 00_scope.md R7. DESIGN CHOICE for the region, which has no default
and which nothing reads (log entry 22). -/
def Params.default : Params :=
  { region := .ntsc, stepWhenCorrupted := .refuse, xaaMagic := 0xFF#8, lxaMagic := 0xFF#8 }

/-! ## Free values: constants without a body -/

/-- `RAM_INIT` (00_scope.md R7, 92_eei_decisions.md D11): the contents of a byte of memory that
nothing has written, by its place in the listing (log entry 2). -/
opaque Config.memInit : Nat → Byte

/-- `OPEN_BUS` and the answers of devices whose behaviour the spec does not give (00_scope.md R7,
93_implementation_defined.md U2, U3): the n-th value drawn (log entry 3). -/
opaque Config.drawByte : Nat → Byte

/-- The n-th address drawn: an unspecified latch after a reset (10_state.md R45, log entry 6). -/
opaque Config.drawWord : Nat → Word

/-- The n-th bit drawn: an unspecified latch after a reset (10_state.md R45, log entry 6). -/
opaque Config.drawBool : Nat → Bool

/-- Whether a byte written to 0x2000 has the NMI-enable bit set; the bit's position is not in the
source (60_exceptions.md R345, R348; log entry 7). -/
opaque Config.ctrlNmiEnabled : Byte → Bool

/-- `PPU_TICKS_PER_CPU_CYCLE` as a ratio of ticks to cycles, OPEN in 92_eei_decisions.md D20. No CPU
rule reads it (log entry 22). -/
opaque Config.ppuTicksPerCpuCycle : Region → Nat × Nat

/-! ## The environment's side of the bus -/

/-- The IRQ mask: one bit per source, positions unspecified (10_state.md R33, log entry 18). -/
structure IrqMask where
  mapper       : Bool
  frameCounter : Bool
  dmc          : Bool
deriving DecidableEq, Repr

/-- The mask with no source set. -/
def IrqMask.none : IrqMask := { mapper := false, frameCounter := false, dmc := false }

/-- Access rights of a cartridge window: `BankAccess` of 20_memory.md R83. -/
inductive CartAccess where
  | none
  | read
  | readWrite
deriving DecidableEq, Repr

/-- A window of cartridge space, 20_memory.md R83: the addresses `first` to `last` inclusive. -/
structure CartWindow where
  first  : Nat
  last   : Nat
  access : CartAccess
deriving DecidableEq, Repr

/-- The PPU as far as rules R345 to R349 of 60_exceptions.md tie what the CPU sees of it. -/
structure PpuPort where
  /-- The VBlank flag, cleared by a read of 0x2002 (R346). -/
  vblank      : Bool
  /-- `ctrl.nmi_enabled` (R345, R349). -/
  nmiEnabled  : Bool
  /-- The write-toggle latch, cleared by a read of 0x2002 (R346). -/
  writeToggle : Bool
  /-- The post-power-on period in which some register writes are ignored (R345). -/
  warmup      : Bool
  /-- The one-byte buffer of the data port 0x2007 (R347). -/
  readBuffer  : Byte
  /-- The 14-bit PPU address the data port reads at (R347, 20_memory.md R61). -/
  vramAddr    : BitVec 14
deriving DecidableEq, Repr

/-- What the environment does in one CPU cycle (00_scope.md R8, 20_memory.md R74): the values of the
CPU block's inputs after that cycle's catch-up. -/
structure BusInput where
  /-- `data_in`: the byte an agent drives if this cycle reads a place RAM does not answer;
  `none` where no agent drives one. -/
  data     : Option Byte
  /-- `irq_lines` at the end of the cycle (60_exceptions.md R312). -/
  irqLines : IrqMask
  /-- The PPU port as the PPU leaves it at the catch-up; `none` where it does not change it. -/
  ppu      : Option PpuPort
  /-- `dmc_dma_req(addr)`, where the APU raises it in this cycle (60_exceptions.md R331). -/
  dmcReq   : Option Word
  /-- New cartridge windows, where the mapper changes them (20_memory.md R83). -/
  windows  : Option (List CartWindow)
deriving DecidableEq, Repr

/-- The two kinds of reset (70_reset_and_hazards.md R390). -/
inductive ResetKind where
  | hard
  | soft
deriving DecidableEq, Repr

/-- One bus cycle as the outside sees it: the outputs `addr`, `rw` and `data_out` of 00_scope.md R8,
with the byte read where it is a read; `idle` for a cycle without an access (60_exceptions.md R332
`IdleCycle`, 70_reset_and_hazards.md R393). -/
inductive BusEvent where
  | read (addr : Word) (data : Byte)
  | write (addr : Word) (data : Byte)
  | idle
deriving DecidableEq, Repr

end Sys2Proof
end

