-- ==== Sys2Proof/Syntax.lean ====
section
/-!
DEFINITION. The instructions of the CPU as syntax: one constructor for each of the 256 rows of the
opcode matrix (30_encoding.md R104, 40_addressing_modes.md R151), with its operand bytes as its
only field: the immediate, zero-page or offset byte, or the little-endian 16-bit address (R101,
R102). A mnemonic with several opcodes in one mode carries the opcode in its name.
-/

namespace Sys2Proof

/-- The 256 instructions (30_encoding.md R104): those with operand bytes in the order of their
opcodes, then those without. -/
inductive Instr where
  /-- 0x00 BRK IMM, R252. -/
  | brk (pad : Byte)
  /-- 0x01 ORA IDX, R183. -/
  | oraIdx (zp : Byte)
  /-- 0x03 SLO IDX, R271. -/
  | sloIdx (zp : Byte)
  /-- 0x04 NOP ZP0, R293. -/
  | nopZp0_04 (zp : Byte)
  /-- 0x05 ORA ZP0, R183. -/
  | oraZp0 (zp : Byte)
  /-- 0x06 ASL ZP0, R210. -/
  | aslZp0 (zp : Byte)
  /-- 0x07 SLO ZP0, R271. -/
  | sloZp0 (zp : Byte)
  /-- 0x09 ORA IMM, R183. -/
  | oraImm (imm : Byte)
  /-- 0x0B ANC IMM, R280. -/
  | ancImm_0B (imm : Byte)
  /-- 0x0C NOP ABS, R295. -/
  | nopAbs (addr : Word)
  /-- 0x0D ORA ABS, R183. -/
  | oraAbs (addr : Word)
  /-- 0x0E ASL ABS, R210. -/
  | aslAbs (addr : Word)
  /-- 0x0F SLO ABS, R271. -/
  | sloAbs (addr : Word)
  /-- 0x10 BPL REL, R226. -/
  | bpl (rel : Byte)
  /-- 0x11 ORA IDY, R183. -/
  | oraIdy (zp : Byte)
  /-- 0x13 SLO IDY, R271. -/
  | sloIdy (zp : Byte)
  /-- 0x14 NOP ZPX, R294. -/
  | nopZpx_14 (zp : Byte)
  /-- 0x15 ORA ZPX, R183. -/
  | oraZpx (zp : Byte)
  /-- 0x16 ASL ZPX, R210. -/
  | aslZpx (zp : Byte)
  /-- 0x17 SLO ZPX, R271. -/
  | sloZpx (zp : Byte)
  /-- 0x19 ORA ABY, R183. -/
  | oraAby (addr : Word)
  /-- 0x1B SLO ABY, R271. -/
  | sloAby (addr : Word)
  /-- 0x1C NOP ABX, R296. -/
  | nopAbx_1C (addr : Word)
  /-- 0x1D ORA ABX, R183. -/
  | oraAbx (addr : Word)
  /-- 0x1E ASL ABX, R210. -/
  | aslAbx (addr : Word)
  /-- 0x1F SLO ABX, R271. -/
  | sloAbx (addr : Word)
  /-- 0x20 JSR ABS, R231. -/
  | jsr (addr : Word)
  /-- 0x21 AND IDX, R182. -/
  | andIdx (zp : Byte)
  /-- 0x23 RLA IDX, R272. -/
  | rlaIdx (zp : Byte)
  /-- 0x24 BIT ZP0, R185. -/
  | bitZp0 (zp : Byte)
  /-- 0x25 AND ZP0, R182. -/
  | andZp0 (zp : Byte)
  /-- 0x26 ROL ZP0, R212. -/
  | rolZp0 (zp : Byte)
  /-- 0x27 RLA ZP0, R272. -/
  | rlaZp0 (zp : Byte)
  /-- 0x29 AND IMM, R182. -/
  | andImm (imm : Byte)
  /-- 0x2B ANC IMM, R280. -/
  | ancImm_2B (imm : Byte)
  /-- 0x2C BIT ABS, R185. -/
  | bitAbs (addr : Word)
  /-- 0x2D AND ABS, R182. -/
  | andAbs (addr : Word)
  /-- 0x2E ROL ABS, R212. -/
  | rolAbs (addr : Word)
  /-- 0x2F RLA ABS, R272. -/
  | rlaAbs (addr : Word)
  /-- 0x30 BMI REL, R225. -/
  | bmi (rel : Byte)
  /-- 0x31 AND IDY, R182. -/
  | andIdy (zp : Byte)
  /-- 0x33 RLA IDY, R272. -/
  | rlaIdy (zp : Byte)
  /-- 0x34 NOP ZPX, R294. -/
  | nopZpx_34 (zp : Byte)
  /-- 0x35 AND ZPX, R182. -/
  | andZpx (zp : Byte)
  /-- 0x36 ROL ZPX, R212. -/
  | rolZpx (zp : Byte)
  /-- 0x37 RLA ZPX, R272. -/
  | rlaZpx (zp : Byte)
  /-- 0x39 AND ABY, R182. -/
  | andAby (addr : Word)
  /-- 0x3B RLA ABY, R272. -/
  | rlaAby (addr : Word)
  /-- 0x3C NOP ABX, R296. -/
  | nopAbx_3C (addr : Word)
  /-- 0x3D AND ABX, R182. -/
  | andAbx (addr : Word)
  /-- 0x3E ROL ABX, R212. -/
  | rolAbx (addr : Word)
  /-- 0x3F RLA ABX, R272. -/
  | rlaAbx (addr : Word)
  /-- 0x41 EOR IDX, R184. -/
  | eorIdx (zp : Byte)
  /-- 0x43 SRE IDX, R273. -/
  | sreIdx (zp : Byte)
  /-- 0x44 NOP ZP0, R293. -/
  | nopZp0_44 (zp : Byte)
  /-- 0x45 EOR ZP0, R184. -/
  | eorZp0 (zp : Byte)
  /-- 0x46 LSR ZP0, R211. -/
  | lsrZp0 (zp : Byte)
  /-- 0x47 SRE ZP0, R273. -/
  | sreZp0 (zp : Byte)
  /-- 0x49 EOR IMM, R184. -/
  | eorImm (imm : Byte)
  /-- 0x4B ALR IMM, R281. -/
  | alrImm (imm : Byte)
  /-- 0x4C JMP ABS, R229. -/
  | jmpAbs (addr : Word)
  /-- 0x4D EOR ABS, R184. -/
  | eorAbs (addr : Word)
  /-- 0x4E LSR ABS, R211. -/
  | lsrAbs (addr : Word)
  /-- 0x4F SRE ABS, R273. -/
  | sreAbs (addr : Word)
  /-- 0x50 BVC REL, R227. -/
  | bvc (rel : Byte)
  /-- 0x51 EOR IDY, R184. -/
  | eorIdy (zp : Byte)
  /-- 0x53 SRE IDY, R273. -/
  | sreIdy (zp : Byte)
  /-- 0x54 NOP ZPX, R294. -/
  | nopZpx_54 (zp : Byte)
  /-- 0x55 EOR ZPX, R184. -/
  | eorZpx (zp : Byte)
  /-- 0x56 LSR ZPX, R211. -/
  | lsrZpx (zp : Byte)
  /-- 0x57 SRE ZPX, R273. -/
  | sreZpx (zp : Byte)
  /-- 0x59 EOR ABY, R184. -/
  | eorAby (addr : Word)
  /-- 0x5B SRE ABY, R273. -/
  | sreAby (addr : Word)
  /-- 0x5C NOP ABX, R296. -/
  | nopAbx_5C (addr : Word)
  /-- 0x5D EOR ABX, R184. -/
  | eorAbx (addr : Word)
  /-- 0x5E LSR ABX, R211. -/
  | lsrAbx (addr : Word)
  /-- 0x5F SRE ABX, R273. -/
  | sreAbx (addr : Word)
  /-- 0x61 ADC IDX, R180. -/
  | adcIdx (zp : Byte)
  /-- 0x63 RRA IDX, R274. -/
  | rraIdx (zp : Byte)
  /-- 0x64 NOP ZP0, R293. -/
  | nopZp0_64 (zp : Byte)
  /-- 0x65 ADC ZP0, R180. -/
  | adcZp0 (zp : Byte)
  /-- 0x66 ROR ZP0, R213. -/
  | rorZp0 (zp : Byte)
  /-- 0x67 RRA ZP0, R274. -/
  | rraZp0 (zp : Byte)
  /-- 0x69 ADC IMM, R180. -/
  | adcImm (imm : Byte)
  /-- 0x6B ARR IMM, R282. -/
  | arrImm (imm : Byte)
  /-- 0x6C JMP IND, R230. -/
  | jmpInd (ptr : Word)
  /-- 0x6D ADC ABS, R180. -/
  | adcAbs (addr : Word)
  /-- 0x6E ROR ABS, R213. -/
  | rorAbs (addr : Word)
  /-- 0x6F RRA ABS, R274. -/
  | rraAbs (addr : Word)
  /-- 0x70 BVS REL, R228. -/
  | bvs (rel : Byte)
  /-- 0x71 ADC IDY, R180. -/
  | adcIdy (zp : Byte)
  /-- 0x73 RRA IDY, R274. -/
  | rraIdy (zp : Byte)
  /-- 0x74 NOP ZPX, R294. -/
  | nopZpx_74 (zp : Byte)
  /-- 0x75 ADC ZPX, R180. -/
  | adcZpx (zp : Byte)
  /-- 0x76 ROR ZPX, R213. -/
  | rorZpx (zp : Byte)
  /-- 0x77 RRA ZPX, R274. -/
  | rraZpx (zp : Byte)
  /-- 0x79 ADC ABY, R180. -/
  | adcAby (addr : Word)
  /-- 0x7B RRA ABY, R274. -/
  | rraAby (addr : Word)
  /-- 0x7C NOP ABX, R296. -/
  | nopAbx_7C (addr : Word)
  /-- 0x7D ADC ABX, R180. -/
  | adcAbx (addr : Word)
  /-- 0x7E ROR ABX, R213. -/
  | rorAbx (addr : Word)
  /-- 0x7F RRA ABX, R274. -/
  | rraAbx (addr : Word)
  /-- 0x80 NOP IMM, R292. -/
  | nopImm_80 (imm : Byte)
  /-- 0x81 STA IDX, R163. -/
  | staIdx (zp : Byte)
  /-- 0x82 NOP IMM, R292. -/
  | nopImm_82 (imm : Byte)
  /-- 0x83 SAX IDX, R279. -/
  | saxIdx (zp : Byte)
  /-- 0x84 STY ZP0, R165. -/
  | styZp0 (zp : Byte)
  /-- 0x85 STA ZP0, R163. -/
  | staZp0 (zp : Byte)
  /-- 0x86 STX ZP0, R164. -/
  | stxZp0 (zp : Byte)
  /-- 0x87 SAX ZP0, R279. -/
  | saxZp0 (zp : Byte)
  /-- 0x89 NOP IMM, R292. -/
  | nopImm_89 (imm : Byte)
  /-- 0x8B XAA IMM, R284. -/
  | xaaImm (imm : Byte)
  /-- 0x8C STY ABS, R165. -/
  | styAbs (addr : Word)
  /-- 0x8D STA ABS, R163. -/
  | staAbs (addr : Word)
  /-- 0x8E STX ABS, R164. -/
  | stxAbs (addr : Word)
  /-- 0x8F SAX ABS, R279. -/
  | saxAbs (addr : Word)
  /-- 0x90 BCC REL, R221. -/
  | bcc (rel : Byte)
  /-- 0x91 STA IDY, R163. -/
  | staIdy (zp : Byte)
  /-- 0x93 AHX IDY, R287. -/
  | ahxIdy (zp : Byte)
  /-- 0x94 STY ZPX, R165. -/
  | styZpx (zp : Byte)
  /-- 0x95 STA ZPX, R163. -/
  | staZpx (zp : Byte)
  /-- 0x96 STX ZPY, R164. -/
  | stxZpy (zp : Byte)
  /-- 0x97 SAX ZPY, R279. -/
  | saxZpy (zp : Byte)
  /-- 0x99 STA ABY, R163. -/
  | staAby (addr : Word)
  /-- 0x9B TAS ABY, R288. -/
  | tasAby (addr : Word)
  /-- 0x9C SHY ABX, R290. -/
  | shyAbx (addr : Word)
  /-- 0x9D STA ABX, R163. -/
  | staAbx (addr : Word)
  /-- 0x9E SHX ABY, R289. -/
  | shxAby (addr : Word)
  /-- 0x9F AHX ABY, R287. -/
  | ahxAby (addr : Word)
  /-- 0xA0 LDY IMM, R162. -/
  | ldyImm (imm : Byte)
  /-- 0xA1 LDA IDX, R160. -/
  | ldaIdx (zp : Byte)
  /-- 0xA2 LDX IMM, R161. -/
  | ldxImm (imm : Byte)
  /-- 0xA3 LAX IDX, R277. -/
  | laxIdx (zp : Byte)
  /-- 0xA4 LDY ZP0, R162. -/
  | ldyZp0 (zp : Byte)
  /-- 0xA5 LDA ZP0, R160. -/
  | ldaZp0 (zp : Byte)
  /-- 0xA6 LDX ZP0, R161. -/
  | ldxZp0 (zp : Byte)
  /-- 0xA7 LAX ZP0, R277. -/
  | laxZp0 (zp : Byte)
  /-- 0xA9 LDA IMM, R160. -/
  | ldaImm (imm : Byte)
  /-- 0xAB LAX IMM, R278. -/
  | laxImm (imm : Byte)
  /-- 0xAC LDY ABS, R162. -/
  | ldyAbs (addr : Word)
  /-- 0xAD LDA ABS, R160. -/
  | ldaAbs (addr : Word)
  /-- 0xAE LDX ABS, R161. -/
  | ldxAbs (addr : Word)
  /-- 0xAF LAX ABS, R277. -/
  | laxAbs (addr : Word)
  /-- 0xB0 BCS REL, R222. -/
  | bcs (rel : Byte)
  /-- 0xB1 LDA IDY, R160. -/
  | ldaIdy (zp : Byte)
  /-- 0xB3 LAX IDY, R277. -/
  | laxIdy (zp : Byte)
  /-- 0xB4 LDY ZPX, R162. -/
  | ldyZpx (zp : Byte)
  /-- 0xB5 LDA ZPX, R160. -/
  | ldaZpx (zp : Byte)
  /-- 0xB6 LDX ZPY, R161. -/
  | ldxZpy (zp : Byte)
  /-- 0xB7 LAX ZPY, R277. -/
  | laxZpy (zp : Byte)
  /-- 0xB9 LDA ABY, R160. -/
  | ldaAby (addr : Word)
  /-- 0xBB LAS ABY, R285. -/
  | lasAby (addr : Word)
  /-- 0xBC LDY ABX, R162. -/
  | ldyAbx (addr : Word)
  /-- 0xBD LDA ABX, R160. -/
  | ldaAbx (addr : Word)
  /-- 0xBE LDX ABY, R161. -/
  | ldxAby (addr : Word)
  /-- 0xBF LAX ABY, R277. -/
  | laxAby (addr : Word)
  /-- 0xC0 CPY IMM, R188. -/
  | cpyImm (imm : Byte)
  /-- 0xC1 CMP IDX, R186. -/
  | cmpIdx (zp : Byte)
  /-- 0xC2 NOP IMM, R292. -/
  | nopImm_C2 (imm : Byte)
  /-- 0xC3 DCP IDX, R275. -/
  | dcpIdx (zp : Byte)
  /-- 0xC4 CPY ZP0, R188. -/
  | cpyZp0 (zp : Byte)
  /-- 0xC5 CMP ZP0, R186. -/
  | cmpZp0 (zp : Byte)
  /-- 0xC6 DEC ZP0, R190. -/
  | decZp0 (zp : Byte)
  /-- 0xC7 DCP ZP0, R275. -/
  | dcpZp0 (zp : Byte)
  /-- 0xC9 CMP IMM, R186. -/
  | cmpImm (imm : Byte)
  /-- 0xCB AXS IMM, R283. -/
  | axsImm (imm : Byte)
  /-- 0xCC CPY ABS, R188. -/
  | cpyAbs (addr : Word)
  /-- 0xCD CMP ABS, R186. -/
  | cmpAbs (addr : Word)
  /-- 0xCE DEC ABS, R190. -/
  | decAbs (addr : Word)
  /-- 0xCF DCP ABS, R275. -/
  | dcpAbs (addr : Word)
  /-- 0xD0 BNE REL, R224. -/
  | bne (rel : Byte)
  /-- 0xD1 CMP IDY, R186. -/
  | cmpIdy (zp : Byte)
  /-- 0xD3 DCP IDY, R275. -/
  | dcpIdy (zp : Byte)
  /-- 0xD4 NOP ZPX, R294. -/
  | nopZpx_D4 (zp : Byte)
  /-- 0xD5 CMP ZPX, R186. -/
  | cmpZpx (zp : Byte)
  /-- 0xD6 DEC ZPX, R190. -/
  | decZpx (zp : Byte)
  /-- 0xD7 DCP ZPX, R275. -/
  | dcpZpx (zp : Byte)
  /-- 0xD9 CMP ABY, R186. -/
  | cmpAby (addr : Word)
  /-- 0xDB DCP ABY, R275. -/
  | dcpAby (addr : Word)
  /-- 0xDC NOP ABX, R296. -/
  | nopAbx_DC (addr : Word)
  /-- 0xDD CMP ABX, R186. -/
  | cmpAbx (addr : Word)
  /-- 0xDE DEC ABX, R190. -/
  | decAbx (addr : Word)
  /-- 0xDF DCP ABX, R275. -/
  | dcpAbx (addr : Word)
  /-- 0xE0 CPX IMM, R187. -/
  | cpxImm (imm : Byte)
  /-- 0xE1 SBC IDX, R181. -/
  | sbcIdx (zp : Byte)
  /-- 0xE2 NOP IMM, R292. -/
  | nopImm_E2 (imm : Byte)
  /-- 0xE3 ISB IDX, R276. -/
  | isbIdx (zp : Byte)
  /-- 0xE4 CPX ZP0, R187. -/
  | cpxZp0 (zp : Byte)
  /-- 0xE5 SBC ZP0, R181. -/
  | sbcZp0 (zp : Byte)
  /-- 0xE6 INC ZP0, R189. -/
  | incZp0 (zp : Byte)
  /-- 0xE7 ISB ZP0, R276. -/
  | isbZp0 (zp : Byte)
  /-- 0xE9 SBC IMM, R181. -/
  | sbcImm (imm : Byte)
  /-- 0xEB SBC IMM, R297. -/
  | sbcImm_EB (imm : Byte)
  /-- 0xEC CPX ABS, R187. -/
  | cpxAbs (addr : Word)
  /-- 0xED SBC ABS, R181. -/
  | sbcAbs (addr : Word)
  /-- 0xEE INC ABS, R189. -/
  | incAbs (addr : Word)
  /-- 0xEF ISB ABS, R276. -/
  | isbAbs (addr : Word)
  /-- 0xF0 BEQ REL, R223. -/
  | beq (rel : Byte)
  /-- 0xF1 SBC IDY, R181. -/
  | sbcIdy (zp : Byte)
  /-- 0xF3 ISB IDY, R276. -/
  | isbIdy (zp : Byte)
  /-- 0xF4 NOP ZPX, R294. -/
  | nopZpx_F4 (zp : Byte)
  /-- 0xF5 SBC ZPX, R181. -/
  | sbcZpx (zp : Byte)
  /-- 0xF6 INC ZPX, R189. -/
  | incZpx (zp : Byte)
  /-- 0xF7 ISB ZPX, R276. -/
  | isbZpx (zp : Byte)
  /-- 0xF9 SBC ABY, R181. -/
  | sbcAby (addr : Word)
  /-- 0xFB ISB ABY, R276. -/
  | isbAby (addr : Word)
  /-- 0xFC NOP ABX, R296. -/
  | nopAbx_FC (addr : Word)
  /-- 0xFD SBC ABX, R181. -/
  | sbcAbx (addr : Word)
  /-- 0xFE INC ABX, R189. -/
  | incAbx (addr : Word)
  /-- 0xFF ISB ABX, R276. -/
  | isbAbx (addr : Word)
  /-- 0x02 XXX IMP, R299. -/
  | xxx_02
  /-- 0x08 PHP IMP, R241. -/
  | php
  /-- 0x0A ASL ACC, R210. -/
  | aslAcc
  /-- 0x12 XXX IMP, R299. -/
  | xxx_12
  /-- 0x18 CLC IMP, R244. -/
  | clc
  /-- 0x1A NOP IMP, R291. -/
  | nopImp_1A
  /-- 0x22 XXX IMP, R299. -/
  | xxx_22
  /-- 0x28 PLP IMP, R243. -/
  | plp
  /-- 0x2A ROL ACC, R212. -/
  | rolAcc
  /-- 0x32 XXX IMP, R299. -/
  | xxx_32
  /-- 0x38 SEC IMP, R245. -/
  | sec
  /-- 0x3A NOP IMP, R291. -/
  | nopImp_3A
  /-- 0x40 RTI IMP, R253. -/
  | rti
  /-- 0x42 XXX IMP, R299. -/
  | xxx_42
  /-- 0x48 PHA IMP, R240. -/
  | pha
  /-- 0x4A LSR ACC, R211. -/
  | lsrAcc
  /-- 0x52 XXX IMP, R299. -/
  | xxx_52
  /-- 0x58 CLI IMP, R246. -/
  | cli
  /-- 0x5A NOP IMP, R291. -/
  | nopImp_5A
  /-- 0x60 RTS IMP, R232. -/
  | rts
  /-- 0x62 XXX IMP, R299. -/
  | xxx_62
  /-- 0x68 PLA IMP, R242. -/
  | pla
  /-- 0x6A ROR ACC, R213. -/
  | rorAcc
  /-- 0x72 XXX IMP, R299. -/
  | xxx_72
  /-- 0x78 SEI IMP, R247. -/
  | sei
  /-- 0x7A NOP IMP, R291. -/
  | nopImp_7A
  /-- 0x88 DEY IMP, R194. -/
  | dey
  /-- 0x8A TXA IMP, R168. -/
  | txa
  /-- 0x92 XXX IMP, R299. -/
  | xxx_92
  /-- 0x98 TYA IMP, R169. -/
  | tya
  /-- 0x9A TXS IMP, R171. -/
  | txs
  /-- 0xA8 TAY IMP, R167. -/
  | tay
  /-- 0xAA TAX IMP, R166. -/
  | tax
  /-- 0xB2 XXX IMP, R299. -/
  | xxx_B2
  /-- 0xB8 CLV IMP, R250. -/
  | clv
  /-- 0xBA TSX IMP, R170. -/
  | tsx
  /-- 0xC8 INY IMP, R192. -/
  | iny
  /-- 0xCA DEX IMP, R193. -/
  | dex
  /-- 0xD2 XXX IMP, R299. -/
  | xxx_D2
  /-- 0xD8 CLD IMP, R248. -/
  | cld
  /-- 0xDA NOP IMP, R291. -/
  | nopImp_DA
  /-- 0xE8 INX IMP, R191. -/
  | inx
  /-- 0xEA NOP IMP, R251. -/
  | nop
  /-- 0xF2 XXX IMP, R299. -/
  | xxx_F2
  /-- 0xF8 SED IMP, R249. -/
  | sed
  /-- 0xFA NOP IMP, R291. -/
  | nopImp_FA
deriving DecidableEq, Repr

end Sys2Proof
end

