-- ==== Sys2Proof/WellFormed.lean ====
section
/-!
DEFINITION. Well-formedness. An instruction needs no check: the operand fields of `Instr` are typed
by their full range, and 30_encoding.md R106 gives every one of the 256 opcodes with every operand a
meaning. What can be ill formed is what the environment hands in: cartridge windows and cycle inputs.
-/

namespace Sys2Proof

/-- Every instruction is well formed: "There is no reserved and no trapping encoding"
(30_encoding.md R106), and all bits of an operand byte belong to one field (R101). -/
def Instr.WellFormed (_ : Instr) : Bool := true

/-- A window lies in cartridge space, 0x4020 to 0xFFFF, and is not empty (20_memory.md R67, R83). -/
def CartWindow.WellFormed (w : CartWindow) : Bool :=
  decide (0x4020 ≤ w.first) && decide (w.first ≤ w.last) && decide (w.last ≤ 0xFFFF)

/-- A cycle input is well formed when a DMC request is for cartridge space ("with `addr` in
cartridge space", 60_exceptions.md R331) and new windows lie there too (20_memory.md R83). -/
def BusInput.WellFormed (i : BusInput) : Bool :=
  (match i.dmcReq with
    | none => true
    | some a => decide (0x4020 ≤ a.toNat)) &&
  (match i.windows with
    | none => true
    | some ws => ws.all CartWindow.WellFormed)

end Sys2Proof
end

