-- ==== Sys2Proof/Decode.lean ====
section
/-!
DEFINITION. Encoding: the decode table (30_encoding.md R103, R104), the decoder, total on any bytes,
and the encoder, written from the same matrix; and the byte-order and sign-extension helpers of
00_scope.md R10 and R11.
-/

namespace Sys2Proof

/-! ## Bytes and words (00_scope.md R10, R11) -/

/-- `hi(w)` is `w[15:8]`. -/
def hi (w : Word) : Byte := w.extractLsb' 8 8

/-- `lo(w)` is `w[7:0]`. -/
def lo (w : Word) : Byte := w.extractLsb' 0 8

/-- `mk16(h, l)` is `h ++ l`. -/
def mk16 (h l : Byte) : Word := h ++ l

/-- `zext_16(b)`: eight zero bits above `b`. -/
def zext16 (b : Byte) : Word := b.setWidth 16

/-- `sext_16(b)`: `b` read as two's complement. -/
def sext16 (b : Byte) : Word := b.signExtend 16

/-! ## The decode table -/

/-- The 13 addressing modes, by the codes of 30_encoding.md R101. -/
inductive AddrMode where
  | IMP | ACC | IMM | ZP0 | ZPX | ZPY | REL | IDX | IDY | ABS | ABX | ABY | IND
deriving DecidableEq, Repr

/-- How an operation uses the effective address (30_encoding.md R111). -/
inductive Kind where
  | read | store | rmw | acc | implied | branch | jump | brk
deriving DecidableEq, Repr

/-- The operations of the decode table, by mnemonic (30_encoding.md R105). -/
inductive Operation where
  | ADC | AHX | ALR | ANC | AND | ARR | ASL | AXS | BCC | BCS | BEQ | BIT
  | BMI | BNE | BPL | BRK | BVC | BVS | CLC | CLD | CLI | CLV | CMP | CPX
  | CPY | DCP | DEC | DEX | DEY | EOR | INC | INX | INY | ISB | JMP | JSR
  | LAS | LAX | LDA | LDX | LDY | LSR | NOP | ORA | PHA | PHP | PLA | PLP
  | RLA | ROL | ROR | RRA | RTI | RTS | SAX | SBC | SEC | SED | SEI | SHX
  | SHY | SLO | SRE | STA | STX | STY | TAS | TAX | TAY | TSX | TXA | TXS
  | TYA | XAA | XXX
deriving DecidableEq, Repr

/-- One entry of the decode table: `(Operation, AddrMode, BaseCycles)` and the derived columns
`kind` and `class` (30_encoding.md R103, R104, R110, R111). -/
structure Entry where
  operation  : Operation
  mode       : AddrMode
  baseCycles : Nat
  kind       : Kind
  official   : Bool
deriving DecidableEq, Repr

/-- The number of operand bytes of a mode (30_encoding.md R101). -/
def AddrMode.operandBytes : AddrMode → Nat
  | .IMP => 0
  | .ACC => 0
  | .IMM => 1
  | .ZP0 => 1
  | .ZPX => 1
  | .ZPY => 1
  | .REL => 1
  | .IDX => 1
  | .IDY => 1
  | .ABS => 2
  | .ABX => 2
  | .ABY => 2
  | .IND => 2

/-- The length of an instruction in bytes: the opcode and the operand bytes (30_encoding.md R101, R107). -/
def Entry.bytes (e : Entry) : Nat := 1 + e.mode.operandBytes

/-- Row 0x0_ of the matrix (30_encoding.md R104). -/
def tableRow0 : List Entry := [
  ⟨.BRK, .IMM, 7, .brk, true⟩,
  ⟨.ORA, .IDX, 6, .read, true⟩,
  ⟨.XXX, .IMP, 2, .implied, false⟩,
  ⟨.SLO, .IDX, 8, .rmw, false⟩,
  ⟨.NOP, .ZP0, 3, .read, false⟩,
  ⟨.ORA, .ZP0, 3, .read, true⟩,
  ⟨.ASL, .ZP0, 5, .rmw, true⟩,
  ⟨.SLO, .ZP0, 5, .rmw, false⟩,
  ⟨.PHP, .IMP, 3, .implied, true⟩,
  ⟨.ORA, .IMM, 2, .read, true⟩,
  ⟨.ASL, .ACC, 2, .acc, true⟩,
  ⟨.ANC, .IMM, 2, .read, false⟩,
  ⟨.NOP, .ABS, 4, .read, false⟩,
  ⟨.ORA, .ABS, 4, .read, true⟩,
  ⟨.ASL, .ABS, 6, .rmw, true⟩,
  ⟨.SLO, .ABS, 6, .rmw, false⟩]

/-- Row 0x1_ of the matrix (30_encoding.md R104). -/
def tableRow1 : List Entry := [
  ⟨.BPL, .REL, 2, .branch, true⟩,
  ⟨.ORA, .IDY, 5, .read, true⟩,
  ⟨.XXX, .IMP, 2, .implied, false⟩,
  ⟨.SLO, .IDY, 8, .rmw, false⟩,
  ⟨.NOP, .ZPX, 4, .read, false⟩,
  ⟨.ORA, .ZPX, 4, .read, true⟩,
  ⟨.ASL, .ZPX, 6, .rmw, true⟩,
  ⟨.SLO, .ZPX, 6, .rmw, false⟩,
  ⟨.CLC, .IMP, 2, .implied, true⟩,
  ⟨.ORA, .ABY, 4, .read, true⟩,
  ⟨.NOP, .IMP, 2, .implied, false⟩,
  ⟨.SLO, .ABY, 7, .rmw, false⟩,
  ⟨.NOP, .ABX, 4, .read, false⟩,
  ⟨.ORA, .ABX, 4, .read, true⟩,
  ⟨.ASL, .ABX, 7, .rmw, true⟩,
  ⟨.SLO, .ABX, 7, .rmw, false⟩]

/-- Row 0x2_ of the matrix (30_encoding.md R104). -/
def tableRow2 : List Entry := [
  ⟨.JSR, .ABS, 6, .jump, true⟩,
  ⟨.AND, .IDX, 6, .read, true⟩,
  ⟨.XXX, .IMP, 2, .implied, false⟩,
  ⟨.RLA, .IDX, 8, .rmw, false⟩,
  ⟨.BIT, .ZP0, 3, .read, true⟩,
  ⟨.AND, .ZP0, 3, .read, true⟩,
  ⟨.ROL, .ZP0, 5, .rmw, true⟩,
  ⟨.RLA, .ZP0, 5, .rmw, false⟩,
  ⟨.PLP, .IMP, 4, .implied, true⟩,
  ⟨.AND, .IMM, 2, .read, true⟩,
  ⟨.ROL, .ACC, 2, .acc, true⟩,
  ⟨.ANC, .IMM, 2, .read, false⟩,
  ⟨.BIT, .ABS, 4, .read, true⟩,
  ⟨.AND, .ABS, 4, .read, true⟩,
  ⟨.ROL, .ABS, 6, .rmw, true⟩,
  ⟨.RLA, .ABS, 6, .rmw, false⟩]

/-- Row 0x3_ of the matrix (30_encoding.md R104). -/
def tableRow3 : List Entry := [
  ⟨.BMI, .REL, 2, .branch, true⟩,
  ⟨.AND, .IDY, 5, .read, true⟩,
  ⟨.XXX, .IMP, 2, .implied, false⟩,
  ⟨.RLA, .IDY, 8, .rmw, false⟩,
  ⟨.NOP, .ZPX, 4, .read, false⟩,
  ⟨.AND, .ZPX, 4, .read, true⟩,
  ⟨.ROL, .ZPX, 6, .rmw, true⟩,
  ⟨.RLA, .ZPX, 6, .rmw, false⟩,
  ⟨.SEC, .IMP, 2, .implied, true⟩,
  ⟨.AND, .ABY, 4, .read, true⟩,
  ⟨.NOP, .IMP, 2, .implied, false⟩,
  ⟨.RLA, .ABY, 7, .rmw, false⟩,
  ⟨.NOP, .ABX, 4, .read, false⟩,
  ⟨.AND, .ABX, 4, .read, true⟩,
  ⟨.ROL, .ABX, 7, .rmw, true⟩,
  ⟨.RLA, .ABX, 7, .rmw, false⟩]

/-- Row 0x4_ of the matrix (30_encoding.md R104). -/
def tableRow4 : List Entry := [
  ⟨.RTI, .IMP, 6, .implied, true⟩,
  ⟨.EOR, .IDX, 6, .read, true⟩,
  ⟨.XXX, .IMP, 2, .implied, false⟩,
  ⟨.SRE, .IDX, 8, .rmw, false⟩,
  ⟨.NOP, .ZP0, 3, .read, false⟩,
  ⟨.EOR, .ZP0, 3, .read, true⟩,
  ⟨.LSR, .ZP0, 5, .rmw, true⟩,
  ⟨.SRE, .ZP0, 5, .rmw, false⟩,
  ⟨.PHA, .IMP, 3, .implied, true⟩,
  ⟨.EOR, .IMM, 2, .read, true⟩,
  ⟨.LSR, .ACC, 2, .acc, true⟩,
  ⟨.ALR, .IMM, 2, .read, false⟩,
  ⟨.JMP, .ABS, 3, .jump, true⟩,
  ⟨.EOR, .ABS, 4, .read, true⟩,
  ⟨.LSR, .ABS, 6, .rmw, true⟩,
  ⟨.SRE, .ABS, 6, .rmw, false⟩]

/-- Row 0x5_ of the matrix (30_encoding.md R104). -/
def tableRow5 : List Entry := [
  ⟨.BVC, .REL, 2, .branch, true⟩,
  ⟨.EOR, .IDY, 5, .read, true⟩,
  ⟨.XXX, .IMP, 2, .implied, false⟩,
  ⟨.SRE, .IDY, 8, .rmw, false⟩,
  ⟨.NOP, .ZPX, 4, .read, false⟩,
  ⟨.EOR, .ZPX, 4, .read, true⟩,
  ⟨.LSR, .ZPX, 6, .rmw, true⟩,
  ⟨.SRE, .ZPX, 6, .rmw, false⟩,
  ⟨.CLI, .IMP, 2, .implied, true⟩,
  ⟨.EOR, .ABY, 4, .read, true⟩,
  ⟨.NOP, .IMP, 2, .implied, false⟩,
  ⟨.SRE, .ABY, 7, .rmw, false⟩,
  ⟨.NOP, .ABX, 4, .read, false⟩,
  ⟨.EOR, .ABX, 4, .read, true⟩,
  ⟨.LSR, .ABX, 7, .rmw, true⟩,
  ⟨.SRE, .ABX, 7, .rmw, false⟩]

/-- Row 0x6_ of the matrix (30_encoding.md R104). -/
def tableRow6 : List Entry := [
  ⟨.RTS, .IMP, 6, .implied, true⟩,
  ⟨.ADC, .IDX, 6, .read, true⟩,
  ⟨.XXX, .IMP, 2, .implied, false⟩,
  ⟨.RRA, .IDX, 8, .rmw, false⟩,
  ⟨.NOP, .ZP0, 3, .read, false⟩,
  ⟨.ADC, .ZP0, 3, .read, true⟩,
  ⟨.ROR, .ZP0, 5, .rmw, true⟩,
  ⟨.RRA, .ZP0, 5, .rmw, false⟩,
  ⟨.PLA, .IMP, 4, .implied, true⟩,
  ⟨.ADC, .IMM, 2, .read, true⟩,
  ⟨.ROR, .ACC, 2, .acc, true⟩,
  ⟨.ARR, .IMM, 2, .read, false⟩,
  ⟨.JMP, .IND, 5, .jump, true⟩,
  ⟨.ADC, .ABS, 4, .read, true⟩,
  ⟨.ROR, .ABS, 6, .rmw, true⟩,
  ⟨.RRA, .ABS, 6, .rmw, false⟩]

/-- Row 0x7_ of the matrix (30_encoding.md R104). -/
def tableRow7 : List Entry := [
  ⟨.BVS, .REL, 2, .branch, true⟩,
  ⟨.ADC, .IDY, 5, .read, true⟩,
  ⟨.XXX, .IMP, 2, .implied, false⟩,
  ⟨.RRA, .IDY, 8, .rmw, false⟩,
  ⟨.NOP, .ZPX, 4, .read, false⟩,
  ⟨.ADC, .ZPX, 4, .read, true⟩,
  ⟨.ROR, .ZPX, 6, .rmw, true⟩,
  ⟨.RRA, .ZPX, 6, .rmw, false⟩,
  ⟨.SEI, .IMP, 2, .implied, true⟩,
  ⟨.ADC, .ABY, 4, .read, true⟩,
  ⟨.NOP, .IMP, 2, .implied, false⟩,
  ⟨.RRA, .ABY, 7, .rmw, false⟩,
  ⟨.NOP, .ABX, 4, .read, false⟩,
  ⟨.ADC, .ABX, 4, .read, true⟩,
  ⟨.ROR, .ABX, 7, .rmw, true⟩,
  ⟨.RRA, .ABX, 7, .rmw, false⟩]

/-- Row 0x8_ of the matrix (30_encoding.md R104). -/
def tableRow8 : List Entry := [
  ⟨.NOP, .IMM, 2, .read, false⟩,
  ⟨.STA, .IDX, 6, .store, true⟩,
  ⟨.NOP, .IMM, 2, .read, false⟩,
  ⟨.SAX, .IDX, 6, .store, false⟩,
  ⟨.STY, .ZP0, 3, .store, true⟩,
  ⟨.STA, .ZP0, 3, .store, true⟩,
  ⟨.STX, .ZP0, 3, .store, true⟩,
  ⟨.SAX, .ZP0, 3, .store, false⟩,
  ⟨.DEY, .IMP, 2, .implied, true⟩,
  ⟨.NOP, .IMM, 2, .read, false⟩,
  ⟨.TXA, .IMP, 2, .implied, true⟩,
  ⟨.XAA, .IMM, 2, .read, false⟩,
  ⟨.STY, .ABS, 4, .store, true⟩,
  ⟨.STA, .ABS, 4, .store, true⟩,
  ⟨.STX, .ABS, 4, .store, true⟩,
  ⟨.SAX, .ABS, 4, .store, false⟩]

/-- Row 0x9_ of the matrix (30_encoding.md R104). -/
def tableRow9 : List Entry := [
  ⟨.BCC, .REL, 2, .branch, true⟩,
  ⟨.STA, .IDY, 6, .store, true⟩,
  ⟨.XXX, .IMP, 2, .implied, false⟩,
  ⟨.AHX, .IDY, 6, .store, false⟩,
  ⟨.STY, .ZPX, 4, .store, true⟩,
  ⟨.STA, .ZPX, 4, .store, true⟩,
  ⟨.STX, .ZPY, 4, .store, true⟩,
  ⟨.SAX, .ZPY, 4, .store, false⟩,
  ⟨.TYA, .IMP, 2, .implied, true⟩,
  ⟨.STA, .ABY, 5, .store, true⟩,
  ⟨.TXS, .IMP, 2, .implied, true⟩,
  ⟨.TAS, .ABY, 5, .store, false⟩,
  ⟨.SHY, .ABX, 5, .store, false⟩,
  ⟨.STA, .ABX, 5, .store, true⟩,
  ⟨.SHX, .ABY, 5, .store, false⟩,
  ⟨.AHX, .ABY, 5, .store, false⟩]

/-- Row 0xA_ of the matrix (30_encoding.md R104). -/
def tableRowA : List Entry := [
  ⟨.LDY, .IMM, 2, .read, true⟩,
  ⟨.LDA, .IDX, 6, .read, true⟩,
  ⟨.LDX, .IMM, 2, .read, true⟩,
  ⟨.LAX, .IDX, 6, .read, false⟩,
  ⟨.LDY, .ZP0, 3, .read, true⟩,
  ⟨.LDA, .ZP0, 3, .read, true⟩,
  ⟨.LDX, .ZP0, 3, .read, true⟩,
  ⟨.LAX, .ZP0, 3, .read, false⟩,
  ⟨.TAY, .IMP, 2, .implied, true⟩,
  ⟨.LDA, .IMM, 2, .read, true⟩,
  ⟨.TAX, .IMP, 2, .implied, true⟩,
  ⟨.LAX, .IMM, 2, .read, false⟩,
  ⟨.LDY, .ABS, 4, .read, true⟩,
  ⟨.LDA, .ABS, 4, .read, true⟩,
  ⟨.LDX, .ABS, 4, .read, true⟩,
  ⟨.LAX, .ABS, 4, .read, false⟩]

/-- Row 0xB_ of the matrix (30_encoding.md R104). -/
def tableRowB : List Entry := [
  ⟨.BCS, .REL, 2, .branch, true⟩,
  ⟨.LDA, .IDY, 5, .read, true⟩,
  ⟨.XXX, .IMP, 2, .implied, false⟩,
  ⟨.LAX, .IDY, 5, .read, false⟩,
  ⟨.LDY, .ZPX, 4, .read, true⟩,
  ⟨.LDA, .ZPX, 4, .read, true⟩,
  ⟨.LDX, .ZPY, 4, .read, true⟩,
  ⟨.LAX, .ZPY, 4, .read, false⟩,
  ⟨.CLV, .IMP, 2, .implied, true⟩,
  ⟨.LDA, .ABY, 4, .read, true⟩,
  ⟨.TSX, .IMP, 2, .implied, true⟩,
  ⟨.LAS, .ABY, 4, .read, false⟩,
  ⟨.LDY, .ABX, 4, .read, true⟩,
  ⟨.LDA, .ABX, 4, .read, true⟩,
  ⟨.LDX, .ABY, 4, .read, true⟩,
  ⟨.LAX, .ABY, 4, .read, false⟩]

/-- Row 0xC_ of the matrix (30_encoding.md R104). -/
def tableRowC : List Entry := [
  ⟨.CPY, .IMM, 2, .read, true⟩,
  ⟨.CMP, .IDX, 6, .read, true⟩,
  ⟨.NOP, .IMM, 2, .read, false⟩,
  ⟨.DCP, .IDX, 8, .rmw, false⟩,
  ⟨.CPY, .ZP0, 3, .read, true⟩,
  ⟨.CMP, .ZP0, 3, .read, true⟩,
  ⟨.DEC, .ZP0, 5, .rmw, true⟩,
  ⟨.DCP, .ZP0, 5, .rmw, false⟩,
  ⟨.INY, .IMP, 2, .implied, true⟩,
  ⟨.CMP, .IMM, 2, .read, true⟩,
  ⟨.DEX, .IMP, 2, .implied, true⟩,
  ⟨.AXS, .IMM, 2, .read, false⟩,
  ⟨.CPY, .ABS, 4, .read, true⟩,
  ⟨.CMP, .ABS, 4, .read, true⟩,
  ⟨.DEC, .ABS, 6, .rmw, true⟩,
  ⟨.DCP, .ABS, 6, .rmw, false⟩]

/-- Row 0xD_ of the matrix (30_encoding.md R104). -/
def tableRowD : List Entry := [
  ⟨.BNE, .REL, 2, .branch, true⟩,
  ⟨.CMP, .IDY, 5, .read, true⟩,
  ⟨.XXX, .IMP, 2, .implied, false⟩,
  ⟨.DCP, .IDY, 8, .rmw, false⟩,
  ⟨.NOP, .ZPX, 4, .read, false⟩,
  ⟨.CMP, .ZPX, 4, .read, true⟩,
  ⟨.DEC, .ZPX, 6, .rmw, true⟩,
  ⟨.DCP, .ZPX, 6, .rmw, false⟩,
  ⟨.CLD, .IMP, 2, .implied, true⟩,
  ⟨.CMP, .ABY, 4, .read, true⟩,
  ⟨.NOP, .IMP, 2, .implied, false⟩,
  ⟨.DCP, .ABY, 7, .rmw, false⟩,
  ⟨.NOP, .ABX, 4, .read, false⟩,
  ⟨.CMP, .ABX, 4, .read, true⟩,
  ⟨.DEC, .ABX, 7, .rmw, true⟩,
  ⟨.DCP, .ABX, 7, .rmw, false⟩]

/-- Row 0xE_ of the matrix (30_encoding.md R104). -/
def tableRowE : List Entry := [
  ⟨.CPX, .IMM, 2, .read, true⟩,
  ⟨.SBC, .IDX, 6, .read, true⟩,
  ⟨.NOP, .IMM, 2, .read, false⟩,
  ⟨.ISB, .IDX, 8, .rmw, false⟩,
  ⟨.CPX, .ZP0, 3, .read, true⟩,
  ⟨.SBC, .ZP0, 3, .read, true⟩,
  ⟨.INC, .ZP0, 5, .rmw, true⟩,
  ⟨.ISB, .ZP0, 5, .rmw, false⟩,
  ⟨.INX, .IMP, 2, .implied, true⟩,
  ⟨.SBC, .IMM, 2, .read, true⟩,
  ⟨.NOP, .IMP, 2, .implied, true⟩,
  ⟨.SBC, .IMM, 2, .read, false⟩,
  ⟨.CPX, .ABS, 4, .read, true⟩,
  ⟨.SBC, .ABS, 4, .read, true⟩,
  ⟨.INC, .ABS, 6, .rmw, true⟩,
  ⟨.ISB, .ABS, 6, .rmw, false⟩]

/-- Row 0xF_ of the matrix (30_encoding.md R104). -/
def tableRowF : List Entry := [
  ⟨.BEQ, .REL, 2, .branch, true⟩,
  ⟨.SBC, .IDY, 5, .read, true⟩,
  ⟨.XXX, .IMP, 2, .implied, false⟩,
  ⟨.ISB, .IDY, 8, .rmw, false⟩,
  ⟨.NOP, .ZPX, 4, .read, false⟩,
  ⟨.SBC, .ZPX, 4, .read, true⟩,
  ⟨.INC, .ZPX, 6, .rmw, true⟩,
  ⟨.ISB, .ZPX, 6, .rmw, false⟩,
  ⟨.SED, .IMP, 2, .implied, true⟩,
  ⟨.SBC, .ABY, 4, .read, true⟩,
  ⟨.NOP, .IMP, 2, .implied, false⟩,
  ⟨.ISB, .ABY, 7, .rmw, false⟩,
  ⟨.NOP, .ABX, 4, .read, false⟩,
  ⟨.SBC, .ABX, 4, .read, true⟩,
  ⟨.INC, .ABX, 7, .rmw, true⟩,
  ⟨.ISB, .ABX, 7, .rmw, false⟩]

/-- The sixteen rows of the matrix, in order. -/
def tableRows : List (List Entry) :=
  [tableRow0, tableRow1, tableRow2, tableRow3, tableRow4, tableRow5, tableRow6, tableRow7] ++
  [tableRow8, tableRow9, tableRowA, tableRowB, tableRowC, tableRowD, tableRowE, tableRowF]

/-- `Table[opcode]` (30_encoding.md R103, 40_addressing_modes.md R130): the entry in the opcode's row
and column. The table is total, so the value given to `getD` is never used. -/
def table (opcode : Byte) : Entry :=
  ((tableRows.getD (opcode.toNat / 16) []).getD (opcode.toNat % 16) ⟨.BRK, .IMM, 7, .brk, true⟩)

/-! ## From bytes to an instruction -/

/-- The instructions of row 0x0_, by the opcode's low digit. -/
def instrRow0 (b1 b2 : Byte) : Nat → Instr
  | 0 => .brk b1
  | 1 => .oraIdx b1
  | 2 => .xxx_02
  | 3 => .sloIdx b1
  | 4 => .nopZp0_04 b1
  | 5 => .oraZp0 b1
  | 6 => .aslZp0 b1
  | 7 => .sloZp0 b1
  | 8 => .php
  | 9 => .oraImm b1
  | 10 => .aslAcc
  | 11 => .ancImm_0B b1
  | 12 => .nopAbs (mk16 b2 b1)
  | 13 => .oraAbs (mk16 b2 b1)
  | 14 => .aslAbs (mk16 b2 b1)
  | _ => .sloAbs (mk16 b2 b1)

/-- The instructions of row 0x1_, by the opcode's low digit. -/
def instrRow1 (b1 b2 : Byte) : Nat → Instr
  | 0 => .bpl b1
  | 1 => .oraIdy b1
  | 2 => .xxx_12
  | 3 => .sloIdy b1
  | 4 => .nopZpx_14 b1
  | 5 => .oraZpx b1
  | 6 => .aslZpx b1
  | 7 => .sloZpx b1
  | 8 => .clc
  | 9 => .oraAby (mk16 b2 b1)
  | 10 => .nopImp_1A
  | 11 => .sloAby (mk16 b2 b1)
  | 12 => .nopAbx_1C (mk16 b2 b1)
  | 13 => .oraAbx (mk16 b2 b1)
  | 14 => .aslAbx (mk16 b2 b1)
  | _ => .sloAbx (mk16 b2 b1)

/-- The instructions of row 0x2_, by the opcode's low digit. -/
def instrRow2 (b1 b2 : Byte) : Nat → Instr
  | 0 => .jsr (mk16 b2 b1)
  | 1 => .andIdx b1
  | 2 => .xxx_22
  | 3 => .rlaIdx b1
  | 4 => .bitZp0 b1
  | 5 => .andZp0 b1
  | 6 => .rolZp0 b1
  | 7 => .rlaZp0 b1
  | 8 => .plp
  | 9 => .andImm b1
  | 10 => .rolAcc
  | 11 => .ancImm_2B b1
  | 12 => .bitAbs (mk16 b2 b1)
  | 13 => .andAbs (mk16 b2 b1)
  | 14 => .rolAbs (mk16 b2 b1)
  | _ => .rlaAbs (mk16 b2 b1)

/-- The instructions of row 0x3_, by the opcode's low digit. -/
def instrRow3 (b1 b2 : Byte) : Nat → Instr
  | 0 => .bmi b1
  | 1 => .andIdy b1
  | 2 => .xxx_32
  | 3 => .rlaIdy b1
  | 4 => .nopZpx_34 b1
  | 5 => .andZpx b1
  | 6 => .rolZpx b1
  | 7 => .rlaZpx b1
  | 8 => .sec
  | 9 => .andAby (mk16 b2 b1)
  | 10 => .nopImp_3A
  | 11 => .rlaAby (mk16 b2 b1)
  | 12 => .nopAbx_3C (mk16 b2 b1)
  | 13 => .andAbx (mk16 b2 b1)
  | 14 => .rolAbx (mk16 b2 b1)
  | _ => .rlaAbx (mk16 b2 b1)

/-- The instructions of row 0x4_, by the opcode's low digit. -/
def instrRow4 (b1 b2 : Byte) : Nat → Instr
  | 0 => .rti
  | 1 => .eorIdx b1
  | 2 => .xxx_42
  | 3 => .sreIdx b1
  | 4 => .nopZp0_44 b1
  | 5 => .eorZp0 b1
  | 6 => .lsrZp0 b1
  | 7 => .sreZp0 b1
  | 8 => .pha
  | 9 => .eorImm b1
  | 10 => .lsrAcc
  | 11 => .alrImm b1
  | 12 => .jmpAbs (mk16 b2 b1)
  | 13 => .eorAbs (mk16 b2 b1)
  | 14 => .lsrAbs (mk16 b2 b1)
  | _ => .sreAbs (mk16 b2 b1)

/-- The instructions of row 0x5_, by the opcode's low digit. -/
def instrRow5 (b1 b2 : Byte) : Nat → Instr
  | 0 => .bvc b1
  | 1 => .eorIdy b1
  | 2 => .xxx_52
  | 3 => .sreIdy b1
  | 4 => .nopZpx_54 b1
  | 5 => .eorZpx b1
  | 6 => .lsrZpx b1
  | 7 => .sreZpx b1
  | 8 => .cli
  | 9 => .eorAby (mk16 b2 b1)
  | 10 => .nopImp_5A
  | 11 => .sreAby (mk16 b2 b1)
  | 12 => .nopAbx_5C (mk16 b2 b1)
  | 13 => .eorAbx (mk16 b2 b1)
  | 14 => .lsrAbx (mk16 b2 b1)
  | _ => .sreAbx (mk16 b2 b1)

/-- The instructions of row 0x6_, by the opcode's low digit. -/
def instrRow6 (b1 b2 : Byte) : Nat → Instr
  | 0 => .rts
  | 1 => .adcIdx b1
  | 2 => .xxx_62
  | 3 => .rraIdx b1
  | 4 => .nopZp0_64 b1
  | 5 => .adcZp0 b1
  | 6 => .rorZp0 b1
  | 7 => .rraZp0 b1
  | 8 => .pla
  | 9 => .adcImm b1
  | 10 => .rorAcc
  | 11 => .arrImm b1
  | 12 => .jmpInd (mk16 b2 b1)
  | 13 => .adcAbs (mk16 b2 b1)
  | 14 => .rorAbs (mk16 b2 b1)
  | _ => .rraAbs (mk16 b2 b1)

/-- The instructions of row 0x7_, by the opcode's low digit. -/
def instrRow7 (b1 b2 : Byte) : Nat → Instr
  | 0 => .bvs b1
  | 1 => .adcIdy b1
  | 2 => .xxx_72
  | 3 => .rraIdy b1
  | 4 => .nopZpx_74 b1
  | 5 => .adcZpx b1
  | 6 => .rorZpx b1
  | 7 => .rraZpx b1
  | 8 => .sei
  | 9 => .adcAby (mk16 b2 b1)
  | 10 => .nopImp_7A
  | 11 => .rraAby (mk16 b2 b1)
  | 12 => .nopAbx_7C (mk16 b2 b1)
  | 13 => .adcAbx (mk16 b2 b1)
  | 14 => .rorAbx (mk16 b2 b1)
  | _ => .rraAbx (mk16 b2 b1)

/-- The instructions of row 0x8_, by the opcode's low digit. -/
def instrRow8 (b1 b2 : Byte) : Nat → Instr
  | 0 => .nopImm_80 b1
  | 1 => .staIdx b1
  | 2 => .nopImm_82 b1
  | 3 => .saxIdx b1
  | 4 => .styZp0 b1
  | 5 => .staZp0 b1
  | 6 => .stxZp0 b1
  | 7 => .saxZp0 b1
  | 8 => .dey
  | 9 => .nopImm_89 b1
  | 10 => .txa
  | 11 => .xaaImm b1
  | 12 => .styAbs (mk16 b2 b1)
  | 13 => .staAbs (mk16 b2 b1)
  | 14 => .stxAbs (mk16 b2 b1)
  | _ => .saxAbs (mk16 b2 b1)

/-- The instructions of row 0x9_, by the opcode's low digit. -/
def instrRow9 (b1 b2 : Byte) : Nat → Instr
  | 0 => .bcc b1
  | 1 => .staIdy b1
  | 2 => .xxx_92
  | 3 => .ahxIdy b1
  | 4 => .styZpx b1
  | 5 => .staZpx b1
  | 6 => .stxZpy b1
  | 7 => .saxZpy b1
  | 8 => .tya
  | 9 => .staAby (mk16 b2 b1)
  | 10 => .txs
  | 11 => .tasAby (mk16 b2 b1)
  | 12 => .shyAbx (mk16 b2 b1)
  | 13 => .staAbx (mk16 b2 b1)
  | 14 => .shxAby (mk16 b2 b1)
  | _ => .ahxAby (mk16 b2 b1)

/-- The instructions of row 0xA_, by the opcode's low digit. -/
def instrRowA (b1 b2 : Byte) : Nat → Instr
  | 0 => .ldyImm b1
  | 1 => .ldaIdx b1
  | 2 => .ldxImm b1
  | 3 => .laxIdx b1
  | 4 => .ldyZp0 b1
  | 5 => .ldaZp0 b1
  | 6 => .ldxZp0 b1
  | 7 => .laxZp0 b1
  | 8 => .tay
  | 9 => .ldaImm b1
  | 10 => .tax
  | 11 => .laxImm b1
  | 12 => .ldyAbs (mk16 b2 b1)
  | 13 => .ldaAbs (mk16 b2 b1)
  | 14 => .ldxAbs (mk16 b2 b1)
  | _ => .laxAbs (mk16 b2 b1)

/-- The instructions of row 0xB_, by the opcode's low digit. -/
def instrRowB (b1 b2 : Byte) : Nat → Instr
  | 0 => .bcs b1
  | 1 => .ldaIdy b1
  | 2 => .xxx_B2
  | 3 => .laxIdy b1
  | 4 => .ldyZpx b1
  | 5 => .ldaZpx b1
  | 6 => .ldxZpy b1
  | 7 => .laxZpy b1
  | 8 => .clv
  | 9 => .ldaAby (mk16 b2 b1)
  | 10 => .tsx
  | 11 => .lasAby (mk16 b2 b1)
  | 12 => .ldyAbx (mk16 b2 b1)
  | 13 => .ldaAbx (mk16 b2 b1)
  | 14 => .ldxAby (mk16 b2 b1)
  | _ => .laxAby (mk16 b2 b1)

/-- The instructions of row 0xC_, by the opcode's low digit. -/
def instrRowC (b1 b2 : Byte) : Nat → Instr
  | 0 => .cpyImm b1
  | 1 => .cmpIdx b1
  | 2 => .nopImm_C2 b1
  | 3 => .dcpIdx b1
  | 4 => .cpyZp0 b1
  | 5 => .cmpZp0 b1
  | 6 => .decZp0 b1
  | 7 => .dcpZp0 b1
  | 8 => .iny
  | 9 => .cmpImm b1
  | 10 => .dex
  | 11 => .axsImm b1
  | 12 => .cpyAbs (mk16 b2 b1)
  | 13 => .cmpAbs (mk16 b2 b1)
  | 14 => .decAbs (mk16 b2 b1)
  | _ => .dcpAbs (mk16 b2 b1)

/-- The instructions of row 0xD_, by the opcode's low digit. -/
def instrRowD (b1 b2 : Byte) : Nat → Instr
  | 0 => .bne b1
  | 1 => .cmpIdy b1
  | 2 => .xxx_D2
  | 3 => .dcpIdy b1
  | 4 => .nopZpx_D4 b1
  | 5 => .cmpZpx b1
  | 6 => .decZpx b1
  | 7 => .dcpZpx b1
  | 8 => .cld
  | 9 => .cmpAby (mk16 b2 b1)
  | 10 => .nopImp_DA
  | 11 => .dcpAby (mk16 b2 b1)
  | 12 => .nopAbx_DC (mk16 b2 b1)
  | 13 => .cmpAbx (mk16 b2 b1)
  | 14 => .decAbx (mk16 b2 b1)
  | _ => .dcpAbx (mk16 b2 b1)

/-- The instructions of row 0xE_, by the opcode's low digit. -/
def instrRowE (b1 b2 : Byte) : Nat → Instr
  | 0 => .cpxImm b1
  | 1 => .sbcIdx b1
  | 2 => .nopImm_E2 b1
  | 3 => .isbIdx b1
  | 4 => .cpxZp0 b1
  | 5 => .sbcZp0 b1
  | 6 => .incZp0 b1
  | 7 => .isbZp0 b1
  | 8 => .inx
  | 9 => .sbcImm b1
  | 10 => .nop
  | 11 => .sbcImm_EB b1
  | 12 => .cpxAbs (mk16 b2 b1)
  | 13 => .sbcAbs (mk16 b2 b1)
  | 14 => .incAbs (mk16 b2 b1)
  | _ => .isbAbs (mk16 b2 b1)

/-- The instructions of row 0xF_, by the opcode's low digit. -/
def instrRowF (b1 b2 : Byte) : Nat → Instr
  | 0 => .beq b1
  | 1 => .sbcIdy b1
  | 2 => .xxx_F2
  | 3 => .isbIdy b1
  | 4 => .nopZpx_F4 b1
  | 5 => .sbcZpx b1
  | 6 => .incZpx b1
  | 7 => .isbZpx b1
  | 8 => .sed
  | 9 => .sbcAby (mk16 b2 b1)
  | 10 => .nopImp_FA
  | 11 => .isbAby (mk16 b2 b1)
  | 12 => .nopAbx_FC (mk16 b2 b1)
  | 13 => .sbcAbx (mk16 b2 b1)
  | 14 => .incAbx (mk16 b2 b1)
  | _ => .isbAbx (mk16 b2 b1)

/-- The instruction with this opcode and these operand bytes. Total: "decoding never fails"
(30_encoding.md R103). Operand bytes the mode does not have are not looked at; the first operand
byte is the low one (R102). -/
def instrOf (opcode b1 b2 : Byte) : Instr :=
  match opcode.toNat / 16 with
  | 0 => instrRow0 b1 b2 (opcode.toNat % 16)
  | 1 => instrRow1 b1 b2 (opcode.toNat % 16)
  | 2 => instrRow2 b1 b2 (opcode.toNat % 16)
  | 3 => instrRow3 b1 b2 (opcode.toNat % 16)
  | 4 => instrRow4 b1 b2 (opcode.toNat % 16)
  | 5 => instrRow5 b1 b2 (opcode.toNat % 16)
  | 6 => instrRow6 b1 b2 (opcode.toNat % 16)
  | 7 => instrRow7 b1 b2 (opcode.toNat % 16)
  | 8 => instrRow8 b1 b2 (opcode.toNat % 16)
  | 9 => instrRow9 b1 b2 (opcode.toNat % 16)
  | 10 => instrRowA b1 b2 (opcode.toNat % 16)
  | 11 => instrRowB b1 b2 (opcode.toNat % 16)
  | 12 => instrRowC b1 b2 (opcode.toNat % 16)
  | 13 => instrRowD b1 b2 (opcode.toNat % 16)
  | 14 => instrRowE b1 b2 (opcode.toNat % 16)
  | _ => instrRowF b1 b2 (opcode.toNat % 16)

/-- Why a list of bytes is not the beginning of an instruction. There is no illegal opcode. -/
inductive DecodeError where
  /-- No opcode byte. -/
  | empty
  /-- Fewer operand bytes than the opcode's mode asks for. -/
  | truncated (opcode : Byte)
deriving DecidableEq, Repr

/-- The decoder: the instruction at the head of a list of bytes, and the bytes after it
(30_encoding.md R100, R107). -/
def decode : List Byte → Except DecodeError (Instr × List Byte)
  | [] => .error .empty
  | opcode :: rest =>
    match (table opcode).mode.operandBytes, rest with
    | 0, _ => .ok (instrOf opcode 0 0, rest)
    | 1, b1 :: rest' => .ok (instrOf opcode b1 0, rest')
    | 2, b1 :: b2 :: rest' => .ok (instrOf opcode b1 b2, rest')
    | _, _ => .error (.truncated opcode)

/-! ## From an instruction to bytes -/

/-- The opcode byte (30_encoding.md R104). -/
def Instr.opcode : Instr → Byte
  | .brk _ => 0x00#8
  | .oraIdx _ => 0x01#8
  | .xxx_02 => 0x02#8
  | .sloIdx _ => 0x03#8
  | .nopZp0_04 _ => 0x04#8
  | .oraZp0 _ => 0x05#8
  | .aslZp0 _ => 0x06#8
  | .sloZp0 _ => 0x07#8
  | .php => 0x08#8
  | .oraImm _ => 0x09#8
  | .aslAcc => 0x0A#8
  | .ancImm_0B _ => 0x0B#8
  | .nopAbs _ => 0x0C#8
  | .oraAbs _ => 0x0D#8
  | .aslAbs _ => 0x0E#8
  | .sloAbs _ => 0x0F#8
  | .bpl _ => 0x10#8
  | .oraIdy _ => 0x11#8
  | .xxx_12 => 0x12#8
  | .sloIdy _ => 0x13#8
  | .nopZpx_14 _ => 0x14#8
  | .oraZpx _ => 0x15#8
  | .aslZpx _ => 0x16#8
  | .sloZpx _ => 0x17#8
  | .clc => 0x18#8
  | .oraAby _ => 0x19#8
  | .nopImp_1A => 0x1A#8
  | .sloAby _ => 0x1B#8
  | .nopAbx_1C _ => 0x1C#8
  | .oraAbx _ => 0x1D#8
  | .aslAbx _ => 0x1E#8
  | .sloAbx _ => 0x1F#8
  | .jsr _ => 0x20#8
  | .andIdx _ => 0x21#8
  | .xxx_22 => 0x22#8
  | .rlaIdx _ => 0x23#8
  | .bitZp0 _ => 0x24#8
  | .andZp0 _ => 0x25#8
  | .rolZp0 _ => 0x26#8
  | .rlaZp0 _ => 0x27#8
  | .plp => 0x28#8
  | .andImm _ => 0x29#8
  | .rolAcc => 0x2A#8
  | .ancImm_2B _ => 0x2B#8
  | .bitAbs _ => 0x2C#8
  | .andAbs _ => 0x2D#8
  | .rolAbs _ => 0x2E#8
  | .rlaAbs _ => 0x2F#8
  | .bmi _ => 0x30#8
  | .andIdy _ => 0x31#8
  | .xxx_32 => 0x32#8
  | .rlaIdy _ => 0x33#8
  | .nopZpx_34 _ => 0x34#8
  | .andZpx _ => 0x35#8
  | .rolZpx _ => 0x36#8
  | .rlaZpx _ => 0x37#8
  | .sec => 0x38#8
  | .andAby _ => 0x39#8
  | .nopImp_3A => 0x3A#8
  | .rlaAby _ => 0x3B#8
  | .nopAbx_3C _ => 0x3C#8
  | .andAbx _ => 0x3D#8
  | .rolAbx _ => 0x3E#8
  | .rlaAbx _ => 0x3F#8
  | .rti => 0x40#8
  | .eorIdx _ => 0x41#8
  | .xxx_42 => 0x42#8
  | .sreIdx _ => 0x43#8
  | .nopZp0_44 _ => 0x44#8
  | .eorZp0 _ => 0x45#8
  | .lsrZp0 _ => 0x46#8
  | .sreZp0 _ => 0x47#8
  | .pha => 0x48#8
  | .eorImm _ => 0x49#8
  | .lsrAcc => 0x4A#8
  | .alrImm _ => 0x4B#8
  | .jmpAbs _ => 0x4C#8
  | .eorAbs _ => 0x4D#8
  | .lsrAbs _ => 0x4E#8
  | .sreAbs _ => 0x4F#8
  | .bvc _ => 0x50#8
  | .eorIdy _ => 0x51#8
  | .xxx_52 => 0x52#8
  | .sreIdy _ => 0x53#8
  | .nopZpx_54 _ => 0x54#8
  | .eorZpx _ => 0x55#8
  | .lsrZpx _ => 0x56#8
  | .sreZpx _ => 0x57#8
  | .cli => 0x58#8
  | .eorAby _ => 0x59#8
  | .nopImp_5A => 0x5A#8
  | .sreAby _ => 0x5B#8
  | .nopAbx_5C _ => 0x5C#8
  | .eorAbx _ => 0x5D#8
  | .lsrAbx _ => 0x5E#8
  | .sreAbx _ => 0x5F#8
  | .rts => 0x60#8
  | .adcIdx _ => 0x61#8
  | .xxx_62 => 0x62#8
  | .rraIdx _ => 0x63#8
  | .nopZp0_64 _ => 0x64#8
  | .adcZp0 _ => 0x65#8
  | .rorZp0 _ => 0x66#8
  | .rraZp0 _ => 0x67#8
  | .pla => 0x68#8
  | .adcImm _ => 0x69#8
  | .rorAcc => 0x6A#8
  | .arrImm _ => 0x6B#8
  | .jmpInd _ => 0x6C#8
  | .adcAbs _ => 0x6D#8
  | .rorAbs _ => 0x6E#8
  | .rraAbs _ => 0x6F#8
  | .bvs _ => 0x70#8
  | .adcIdy _ => 0x71#8
  | .xxx_72 => 0x72#8
  | .rraIdy _ => 0x73#8
  | .nopZpx_74 _ => 0x74#8
  | .adcZpx _ => 0x75#8
  | .rorZpx _ => 0x76#8
  | .rraZpx _ => 0x77#8
  | .sei => 0x78#8
  | .adcAby _ => 0x79#8
  | .nopImp_7A => 0x7A#8
  | .rraAby _ => 0x7B#8
  | .nopAbx_7C _ => 0x7C#8
  | .adcAbx _ => 0x7D#8
  | .rorAbx _ => 0x7E#8
  | .rraAbx _ => 0x7F#8
  | .nopImm_80 _ => 0x80#8
  | .staIdx _ => 0x81#8
  | .nopImm_82 _ => 0x82#8
  | .saxIdx _ => 0x83#8
  | .styZp0 _ => 0x84#8
  | .staZp0 _ => 0x85#8
  | .stxZp0 _ => 0x86#8
  | .saxZp0 _ => 0x87#8
  | .dey => 0x88#8
  | .nopImm_89 _ => 0x89#8
  | .txa => 0x8A#8
  | .xaaImm _ => 0x8B#8
  | .styAbs _ => 0x8C#8
  | .staAbs _ => 0x8D#8
  | .stxAbs _ => 0x8E#8
  | .saxAbs _ => 0x8F#8
  | .bcc _ => 0x90#8
  | .staIdy _ => 0x91#8
  | .xxx_92 => 0x92#8
  | .ahxIdy _ => 0x93#8
  | .styZpx _ => 0x94#8
  | .staZpx _ => 0x95#8
  | .stxZpy _ => 0x96#8
  | .saxZpy _ => 0x97#8
  | .tya => 0x98#8
  | .staAby _ => 0x99#8
  | .txs => 0x9A#8
  | .tasAby _ => 0x9B#8
  | .shyAbx _ => 0x9C#8
  | .staAbx _ => 0x9D#8
  | .shxAby _ => 0x9E#8
  | .ahxAby _ => 0x9F#8
  | .ldyImm _ => 0xA0#8
  | .ldaIdx _ => 0xA1#8
  | .ldxImm _ => 0xA2#8
  | .laxIdx _ => 0xA3#8
  | .ldyZp0 _ => 0xA4#8
  | .ldaZp0 _ => 0xA5#8
  | .ldxZp0 _ => 0xA6#8
  | .laxZp0 _ => 0xA7#8
  | .tay => 0xA8#8
  | .ldaImm _ => 0xA9#8
  | .tax => 0xAA#8
  | .laxImm _ => 0xAB#8
  | .ldyAbs _ => 0xAC#8
  | .ldaAbs _ => 0xAD#8
  | .ldxAbs _ => 0xAE#8
  | .laxAbs _ => 0xAF#8
  | .bcs _ => 0xB0#8
  | .ldaIdy _ => 0xB1#8
  | .xxx_B2 => 0xB2#8
  | .laxIdy _ => 0xB3#8
  | .ldyZpx _ => 0xB4#8
  | .ldaZpx _ => 0xB5#8
  | .ldxZpy _ => 0xB6#8
  | .laxZpy _ => 0xB7#8
  | .clv => 0xB8#8
  | .ldaAby _ => 0xB9#8
  | .tsx => 0xBA#8
  | .lasAby _ => 0xBB#8
  | .ldyAbx _ => 0xBC#8
  | .ldaAbx _ => 0xBD#8
  | .ldxAby _ => 0xBE#8
  | .laxAby _ => 0xBF#8
  | .cpyImm _ => 0xC0#8
  | .cmpIdx _ => 0xC1#8
  | .nopImm_C2 _ => 0xC2#8
  | .dcpIdx _ => 0xC3#8
  | .cpyZp0 _ => 0xC4#8
  | .cmpZp0 _ => 0xC5#8
  | .decZp0 _ => 0xC6#8
  | .dcpZp0 _ => 0xC7#8
  | .iny => 0xC8#8
  | .cmpImm _ => 0xC9#8
  | .dex => 0xCA#8
  | .axsImm _ => 0xCB#8
  | .cpyAbs _ => 0xCC#8
  | .cmpAbs _ => 0xCD#8
  | .decAbs _ => 0xCE#8
  | .dcpAbs _ => 0xCF#8
  | .bne _ => 0xD0#8
  | .cmpIdy _ => 0xD1#8
  | .xxx_D2 => 0xD2#8
  | .dcpIdy _ => 0xD3#8
  | .nopZpx_D4 _ => 0xD4#8
  | .cmpZpx _ => 0xD5#8
  | .decZpx _ => 0xD6#8
  | .dcpZpx _ => 0xD7#8
  | .cld => 0xD8#8
  | .cmpAby _ => 0xD9#8
  | .nopImp_DA => 0xDA#8
  | .dcpAby _ => 0xDB#8
  | .nopAbx_DC _ => 0xDC#8
  | .cmpAbx _ => 0xDD#8
  | .decAbx _ => 0xDE#8
  | .dcpAbx _ => 0xDF#8
  | .cpxImm _ => 0xE0#8
  | .sbcIdx _ => 0xE1#8
  | .nopImm_E2 _ => 0xE2#8
  | .isbIdx _ => 0xE3#8
  | .cpxZp0 _ => 0xE4#8
  | .sbcZp0 _ => 0xE5#8
  | .incZp0 _ => 0xE6#8
  | .isbZp0 _ => 0xE7#8
  | .inx => 0xE8#8
  | .sbcImm _ => 0xE9#8
  | .nop => 0xEA#8
  | .sbcImm_EB _ => 0xEB#8
  | .cpxAbs _ => 0xEC#8
  | .sbcAbs _ => 0xED#8
  | .incAbs _ => 0xEE#8
  | .isbAbs _ => 0xEF#8
  | .beq _ => 0xF0#8
  | .sbcIdy _ => 0xF1#8
  | .xxx_F2 => 0xF2#8
  | .isbIdy _ => 0xF3#8
  | .nopZpx_F4 _ => 0xF4#8
  | .sbcZpx _ => 0xF5#8
  | .incZpx _ => 0xF6#8
  | .isbZpx _ => 0xF7#8
  | .sed => 0xF8#8
  | .sbcAby _ => 0xF9#8
  | .nopImp_FA => 0xFA#8
  | .isbAby _ => 0xFB#8
  | .nopAbx_FC _ => 0xFC#8
  | .sbcAbx _ => 0xFD#8
  | .incAbx _ => 0xFE#8
  | .isbAbx _ => 0xFF#8

/-- The operand, zero-extended to a word; 0 where there is none. -/
def Instr.operand : Instr → Word
  | .brk pad => zext16 pad
  | .oraIdx zp => zext16 zp
  | .xxx_02 => 0
  | .sloIdx zp => zext16 zp
  | .nopZp0_04 zp => zext16 zp
  | .oraZp0 zp => zext16 zp
  | .aslZp0 zp => zext16 zp
  | .sloZp0 zp => zext16 zp
  | .php => 0
  | .oraImm imm => zext16 imm
  | .aslAcc => 0
  | .ancImm_0B imm => zext16 imm
  | .nopAbs addr => addr
  | .oraAbs addr => addr
  | .aslAbs addr => addr
  | .sloAbs addr => addr
  | .bpl rel => zext16 rel
  | .oraIdy zp => zext16 zp
  | .xxx_12 => 0
  | .sloIdy zp => zext16 zp
  | .nopZpx_14 zp => zext16 zp
  | .oraZpx zp => zext16 zp
  | .aslZpx zp => zext16 zp
  | .sloZpx zp => zext16 zp
  | .clc => 0
  | .oraAby addr => addr
  | .nopImp_1A => 0
  | .sloAby addr => addr
  | .nopAbx_1C addr => addr
  | .oraAbx addr => addr
  | .aslAbx addr => addr
  | .sloAbx addr => addr
  | .jsr addr => addr
  | .andIdx zp => zext16 zp
  | .xxx_22 => 0
  | .rlaIdx zp => zext16 zp
  | .bitZp0 zp => zext16 zp
  | .andZp0 zp => zext16 zp
  | .rolZp0 zp => zext16 zp
  | .rlaZp0 zp => zext16 zp
  | .plp => 0
  | .andImm imm => zext16 imm
  | .rolAcc => 0
  | .ancImm_2B imm => zext16 imm
  | .bitAbs addr => addr
  | .andAbs addr => addr
  | .rolAbs addr => addr
  | .rlaAbs addr => addr
  | .bmi rel => zext16 rel
  | .andIdy zp => zext16 zp
  | .xxx_32 => 0
  | .rlaIdy zp => zext16 zp
  | .nopZpx_34 zp => zext16 zp
  | .andZpx zp => zext16 zp
  | .rolZpx zp => zext16 zp
  | .rlaZpx zp => zext16 zp
  | .sec => 0
  | .andAby addr => addr
  | .nopImp_3A => 0
  | .rlaAby addr => addr
  | .nopAbx_3C addr => addr
  | .andAbx addr => addr
  | .rolAbx addr => addr
  | .rlaAbx addr => addr
  | .rti => 0
  | .eorIdx zp => zext16 zp
  | .xxx_42 => 0
  | .sreIdx zp => zext16 zp
  | .nopZp0_44 zp => zext16 zp
  | .eorZp0 zp => zext16 zp
  | .lsrZp0 zp => zext16 zp
  | .sreZp0 zp => zext16 zp
  | .pha => 0
  | .eorImm imm => zext16 imm
  | .lsrAcc => 0
  | .alrImm imm => zext16 imm
  | .jmpAbs addr => addr
  | .eorAbs addr => addr
  | .lsrAbs addr => addr
  | .sreAbs addr => addr
  | .bvc rel => zext16 rel
  | .eorIdy zp => zext16 zp
  | .xxx_52 => 0
  | .sreIdy zp => zext16 zp
  | .nopZpx_54 zp => zext16 zp
  | .eorZpx zp => zext16 zp
  | .lsrZpx zp => zext16 zp
  | .sreZpx zp => zext16 zp
  | .cli => 0
  | .eorAby addr => addr
  | .nopImp_5A => 0
  | .sreAby addr => addr
  | .nopAbx_5C addr => addr
  | .eorAbx addr => addr
  | .lsrAbx addr => addr
  | .sreAbx addr => addr
  | .rts => 0
  | .adcIdx zp => zext16 zp
  | .xxx_62 => 0
  | .rraIdx zp => zext16 zp
  | .nopZp0_64 zp => zext16 zp
  | .adcZp0 zp => zext16 zp
  | .rorZp0 zp => zext16 zp
  | .rraZp0 zp => zext16 zp
  | .pla => 0
  | .adcImm imm => zext16 imm
  | .rorAcc => 0
  | .arrImm imm => zext16 imm
  | .jmpInd ptr => ptr
  | .adcAbs addr => addr
  | .rorAbs addr => addr
  | .rraAbs addr => addr
  | .bvs rel => zext16 rel
  | .adcIdy zp => zext16 zp
  | .xxx_72 => 0
  | .rraIdy zp => zext16 zp
  | .nopZpx_74 zp => zext16 zp
  | .adcZpx zp => zext16 zp
  | .rorZpx zp => zext16 zp
  | .rraZpx zp => zext16 zp
  | .sei => 0
  | .adcAby addr => addr
  | .nopImp_7A => 0
  | .rraAby addr => addr
  | .nopAbx_7C addr => addr
  | .adcAbx addr => addr
  | .rorAbx addr => addr
  | .rraAbx addr => addr
  | .nopImm_80 imm => zext16 imm
  | .staIdx zp => zext16 zp
  | .nopImm_82 imm => zext16 imm
  | .saxIdx zp => zext16 zp
  | .styZp0 zp => zext16 zp
  | .staZp0 zp => zext16 zp
  | .stxZp0 zp => zext16 zp
  | .saxZp0 zp => zext16 zp
  | .dey => 0
  | .nopImm_89 imm => zext16 imm
  | .txa => 0
  | .xaaImm imm => zext16 imm
  | .styAbs addr => addr
  | .staAbs addr => addr
  | .stxAbs addr => addr
  | .saxAbs addr => addr
  | .bcc rel => zext16 rel
  | .staIdy zp => zext16 zp
  | .xxx_92 => 0
  | .ahxIdy zp => zext16 zp
  | .styZpx zp => zext16 zp
  | .staZpx zp => zext16 zp
  | .stxZpy zp => zext16 zp
  | .saxZpy zp => zext16 zp
  | .tya => 0
  | .staAby addr => addr
  | .txs => 0
  | .tasAby addr => addr
  | .shyAbx addr => addr
  | .staAbx addr => addr
  | .shxAby addr => addr
  | .ahxAby addr => addr
  | .ldyImm imm => zext16 imm
  | .ldaIdx zp => zext16 zp
  | .ldxImm imm => zext16 imm
  | .laxIdx zp => zext16 zp
  | .ldyZp0 zp => zext16 zp
  | .ldaZp0 zp => zext16 zp
  | .ldxZp0 zp => zext16 zp
  | .laxZp0 zp => zext16 zp
  | .tay => 0
  | .ldaImm imm => zext16 imm
  | .tax => 0
  | .laxImm imm => zext16 imm
  | .ldyAbs addr => addr
  | .ldaAbs addr => addr
  | .ldxAbs addr => addr
  | .laxAbs addr => addr
  | .bcs rel => zext16 rel
  | .ldaIdy zp => zext16 zp
  | .xxx_B2 => 0
  | .laxIdy zp => zext16 zp
  | .ldyZpx zp => zext16 zp
  | .ldaZpx zp => zext16 zp
  | .ldxZpy zp => zext16 zp
  | .laxZpy zp => zext16 zp
  | .clv => 0
  | .ldaAby addr => addr
  | .tsx => 0
  | .lasAby addr => addr
  | .ldyAbx addr => addr
  | .ldaAbx addr => addr
  | .ldxAby addr => addr
  | .laxAby addr => addr
  | .cpyImm imm => zext16 imm
  | .cmpIdx zp => zext16 zp
  | .nopImm_C2 imm => zext16 imm
  | .dcpIdx zp => zext16 zp
  | .cpyZp0 zp => zext16 zp
  | .cmpZp0 zp => zext16 zp
  | .decZp0 zp => zext16 zp
  | .dcpZp0 zp => zext16 zp
  | .iny => 0
  | .cmpImm imm => zext16 imm
  | .dex => 0
  | .axsImm imm => zext16 imm
  | .cpyAbs addr => addr
  | .cmpAbs addr => addr
  | .decAbs addr => addr
  | .dcpAbs addr => addr
  | .bne rel => zext16 rel
  | .cmpIdy zp => zext16 zp
  | .xxx_D2 => 0
  | .dcpIdy zp => zext16 zp
  | .nopZpx_D4 zp => zext16 zp
  | .cmpZpx zp => zext16 zp
  | .decZpx zp => zext16 zp
  | .dcpZpx zp => zext16 zp
  | .cld => 0
  | .cmpAby addr => addr
  | .nopImp_DA => 0
  | .dcpAby addr => addr
  | .nopAbx_DC addr => addr
  | .cmpAbx addr => addr
  | .decAbx addr => addr
  | .dcpAbx addr => addr
  | .cpxImm imm => zext16 imm
  | .sbcIdx zp => zext16 zp
  | .nopImm_E2 imm => zext16 imm
  | .isbIdx zp => zext16 zp
  | .cpxZp0 zp => zext16 zp
  | .sbcZp0 zp => zext16 zp
  | .incZp0 zp => zext16 zp
  | .isbZp0 zp => zext16 zp
  | .inx => 0
  | .sbcImm imm => zext16 imm
  | .nop => 0
  | .sbcImm_EB imm => zext16 imm
  | .cpxAbs addr => addr
  | .sbcAbs addr => addr
  | .incAbs addr => addr
  | .isbAbs addr => addr
  | .beq rel => zext16 rel
  | .sbcIdy zp => zext16 zp
  | .xxx_F2 => 0
  | .isbIdy zp => zext16 zp
  | .nopZpx_F4 zp => zext16 zp
  | .sbcZpx zp => zext16 zp
  | .incZpx zp => zext16 zp
  | .isbZpx zp => zext16 zp
  | .sed => 0
  | .sbcAby addr => addr
  | .nopImp_FA => 0
  | .isbAby addr => addr
  | .nopAbx_FC addr => addr
  | .sbcAbx addr => addr
  | .incAbx addr => addr
  | .isbAbx addr => addr

/-- The decode-table entry of an instruction. -/
def Instr.entry (i : Instr) : Entry := table i.opcode

/-- The encoder: the opcode byte, then the operand bytes, low byte first (30_encoding.md R100 to R102). -/
def encode (i : Instr) : List Byte :=
  match i.entry.mode.operandBytes with
  | 0 => [i.opcode]
  | 1 => [i.opcode, lo i.operand]
  | _ => [i.opcode, lo i.operand, hi i.operand]

/-! ## The host's view of an opcode-table row -/

/-- The three bytes of a table word of `nbits` bits: byte 0 in bits 7..0, and so on; the bits above
`nbits` are zero. -/
def tableWordBytes (nbits w : Nat) : List Byte :=
  let v := w % 2 ^ nbits
  [BitVec.ofNat 8 v, BitVec.ofNat 8 (v / 256), BitVec.ofNat 8 (v / 65536)]

/-- The instruction the decoder reads from a table word. -/
def decodeTableWord (nbits w : Nat) : Option Instr :=
  match decode (tableWordBytes nbits w) with
  | .ok (i, _) => some i
  | .error _ => none

end Sys2Proof
end

