-- ==== Sys2Proof/Machine/State.lean ====
section
/-!
DEFINITION. The state of the machine as plain data, the reasons a step can stop, and the state after
a Hard reset. Everything 10_state.md R44 lists is here, with the environment's side of the bus
(20_memory.md R74, R83; 60_exceptions.md R345 to R349) and the parameters of 00_scope.md R7.
-/

namespace Sys2Proof.Machine

/-- The six stored flags of the status register `P` (10_state.md R22 to R30). B and U are not
stored (R27, R28); R48: "A model may store six Booleans and build the byte on a push". -/
structure Flags where
  c : Bool
  z : Bool
  i : Bool
  d : Bool
  v : Bool
  n : Bool
deriving DecidableEq, Repr

/-- The sequencer's latches (10_state.md R39). -/
structure Latches where
  instr       : Entry
  absAddr     : Word
  relAddr     : Byte
  fetchedData : Byte
  base        : Word
  pageCrossed : Bool
deriving DecidableEq, Repr

/-- Memory: a listing of addresses and bytes, addresses strictly rising. Keys 0x0000 to 0x07FF are
the internal RAM, keys 0x4020 to 0xFFFF the bytes the cartridge shows (20_memory.md R63, R67). -/
abbrev Memory := List Host.Cell

/-- What a bus cycle reads and writes: the cycle counter, the interrupt latches, the DMA registers,
the data bus, memory, and the environment's side of the bus. -/
structure Bus where
  /-- CPU cycles since reset (10_state.md R32). -/
  cycle       : Nat
  /-- Copy of the IRQ lines at the last cycle end (10_state.md R33). -/
  irq         : IrqMask
  /-- NMI pending (10_state.md R34). -/
  nmi         : Bool
  /-- `nmi` one cycle earlier (10_state.md R35). -/
  prevNmi     : Bool
  /-- `nmi_line` at the last cycle end (10_state.md R37). -/
  nmiLinePrev : Bool
  /-- An unmasked IRQ at the last cycle end (10_state.md R36). -/
  runIrq      : Bool
  /-- `runIrq` one cycle earlier (10_state.md R36). -/
  prevRunIrq  : Bool
  /-- OAM DMA requested or running, and its page (10_state.md R40). -/
  oamDma      : Bool
  oamDmaPage  : Byte
  /-- DMC DMA requested or running, and its address (10_state.md R40). -/
  dmcDma      : Bool
  dmcDmaAddr  : Word
  /-- The DMC DMA still owes its halt cycle, its dummy cycle (10_state.md R40). -/
  halt        : Bool
  dummyRead   : Bool
  /-- The byte last handed to the APU's DMC sample buffer (60_exceptions.md R331, log entry 19). -/
  dmcBuffer   : Option Byte
  /-- The last value on the data bus (10_state.md R49). -/
  openBus     : Byte
  mem         : Memory
  /-- The cartridge's windows and their access rights (20_memory.md R83, log entry 1). -/
  windows     : List CartWindow
  /-- The input `irq_lines` (00_scope.md R8). -/
  irqLines    : IrqMask
  /-- The input `data_in` of this cycle, where an agent drives it (00_scope.md R8). -/
  dataIn      : Option Byte
  ppu         : PpuPort
  /-- The model's own: what the environment does in the coming cycles (log entry 4). -/
  inputs      : List BusInput
  /-- The model's own: how many free values have been drawn (log entry 3). -/
  draws       : Nat
  /-- The model's own: the bus cycles since reset, newest first (log entry 11). -/
  trace       : List BusEvent
deriving DecidableEq, Repr

/-- The machine (10_state.md R44). -/
structure State where
  a  : Byte
  x  : Byte
  y  : Byte
  sp : Byte
  pc : Word
  p  : Flags
  /-- Set by a jam opcode, cleared only by reset (10_state.md R38). -/
  corrupted : Bool
  latches   : Latches
  bus       : Bus
  /-- A reset the host has asked for; the next step applies it (70_reset_and_hazards.md R390, log entry 12). -/
  resetReq  : Option ResetKind
  params    : Params
deriving DecidableEq, Repr

/-- Why the machine stops. -/
inductive Fault where
  /-- Raised by `step` alone: `corrupted` is set and STEP_WHEN_CORRUPTED is `refuse`, so "`Step` has
  no transition while `corrupted = 1`" (60_exceptions.md R329). Safe: nothing is claimed past it. -/
  | jammed
deriving DecidableEq, Repr

/-- Why the model has no meaning for an instruction. -/
inductive Refusal where
  /-- Raised by an arm of `exec` that has no meaning yet; none is left. Safe: nothing is claimed. -/
  | notModelled (mnemonic : String)
deriving DecidableEq, Repr

/-- What a meaning answers with. -/
abbrev Result := Host.Outcome State Fault Refusal

/-- The first cartridge the model meets: all of cartridge space plain readable and writable memory,
the test environment of 95_test_vectors.md. DESIGN CHOICE (log entry 1). -/
def flatCartridge : List CartWindow := [{ first := 0x4020, last := 0xFFFF, access := .readWrite }]

/-- The latches after reset, which 10_state.md R45 leaves unspecified. DESIGN CHOICE (log entry 6). -/
def Latches.reset : Latches :=
  { instr := table 0x00#8, absAddr := 0, relAddr := 0, fetchedData := 0, base := 0,
    pageCrossed := false }

/-- The PPU port after power-on: the warmup period runs (60_exceptions.md R353, 70_reset_and_hazards.md
R394); the rest is not in the source, DESIGN CHOICE (log entry 7). -/
def ppuPowerOn : PpuPort :=
  { vblank := false, nmiEnabled := false, writeToggle := false, warmup := true, readBuffer := 0,
    vramAddr := 0 }

/-- The bus side after a Hard reset (10_state.md R45, 70_reset_and_hazards.md R393): seven cycles
without an access have run. -/
def Bus.reset : Bus :=
  { cycle := 7, irq := .none, nmi := false, prevNmi := false, nmiLinePrev := false,
    runIrq := false, prevRunIrq := false, oamDma := false, oamDmaPage := 0, dmcDma := false,
    dmcDmaAddr := 0, halt := false, dummyRead := false, dmcBuffer := none, openBus := 0, mem := [],
    windows := flatCartridge, irqLines := .none, dataIn := none, ppu := ppuPowerOn, inputs := [],
    draws := 0, trace := [.idle, .idle, .idle, .idle, .idle, .idle, .idle] }

/-- The machine right after a Hard reset (10_state.md R45, 70_reset_and_hazards.md R391): `P` = 0x24,
`SP` = 0xFD. The reset vector lies in a cartridge that is not there yet; DESIGN CHOICE: `PC` is
0x8000, the vector of R391's worked example (log entry 5). -/
def State.reset : State :=
  { a := 0, x := 0, y := 0, sp := 0xFD#8, pc := 0x8000#16,
    p := { c := false, z := false, i := true, d := false, v := false, n := false },
    corrupted := false, latches := .reset, bus := .reset, resetReq := none, params := .default }

end Sys2Proof.Machine
end

