-- ==== Sys2Proof/Machine/Flags.lean ====
section
/-!
DEFINITION. Every flag computation the spec gives: the status byte (10_state.md R22, R27, R28, R48),
`set_zn` (R31), ADC and SBC (42_alu.md R180, R181), compares (R196), BIT (R185), the one-bit shifts
(43_shift_rotate.md R210 to R213) and the flags of the unofficial immediate operations
(46_unofficial.md R280 to R283).
-/

namespace Sys2Proof.Machine

/-- One bit as a byte with that bit at place `k`. -/
def flagBit (b : Bool) (k : Nat) : Byte := if b then 1#8 <<< k else 0#8

/-- `P` read as a byte: bit 5 (U) is 1 and bit 4 (B) is 0 (10_state.md R22, R27, R28). -/
def Flags.toByte (p : Flags) : Byte :=
  flagBit p.c 0 ||| flagBit p.z 1 ||| flagBit p.i 2 ||| flagBit p.d 3 ||| 0x20#8 |||
    flagBit p.v 6 ||| flagBit p.n 7

/-- `P` after a pull of byte `b`; bits 4 and 5 are ignored (10_state.md R48). -/
def Flags.ofByte (b : Byte) : Flags :=
  { c := b.getLsbD 0, z := b.getLsbD 1, i := b.getLsbD 2, d := b.getLsbD 3, v := b.getLsbD 6,
    n := b.getLsbD 7 }

/-- The status byte a push writes: `P | 0x30` for BRK and PHP, `(P | 0x20) & ~0x10` for the
interrupt sequence (60_exceptions.md R318). -/
def Flags.pushByte (brk : Bool) (p : Flags) : Byte :=
  if brk then p.toByte ||| 0x30#8 else (p.toByte ||| 0x20#8) &&& ~~~0x10#8

/-- `set_zn(v)` (10_state.md R31). -/
def Flags.setZn (v : Byte) (p : Flags) : Flags := { p with z := v == 0#8, n := v.getLsbD 7 }

/-- ADC (42_alu.md R180): the result and the flags C, V, Z, N, from `A`, the operand and the carry. -/
def adcFlags (a val : Byte) (p : Flags) : Byte × Flags :=
  let sum := a.toNat + val.toNat + p.c.toNat
  let result := BitVec.ofNat 8 sum
  let v := decide ((a ^^^ val) &&& 0x80#8 = 0#8) && decide ((a ^^^ result) &&& 0x80#8 ≠ 0#8)
  (result, { p with c := decide (255 < sum), v := v }.setZn result)

/-- SBC (42_alu.md R181): the borrow is the complement of C. The difference is taken in the
integers and reduced modulo 256. -/
def sbcFlags (a val : Byte) (p : Flags) : Byte × Flags :=
  let diff : Int := a.toNat - val.toNat - (1 - p.c.toNat)
  let result := BitVec.ofInt 8 diff
  let v := decide ((a ^^^ val) &&& 0x80#8 ≠ 0#8) && decide ((a ^^^ result) &&& 0x80#8 ≠ 0#8)
  (result, { p with c := decide (0 ≤ diff), v := v }.setZn result)

/-- `Compare(r, v)` (42_alu.md R196). -/
def Flags.compare (r v : Byte) (p : Flags) : Flags :=
  { p with c := decide (v.toNat ≤ r.toNat) }.setZn (r - v)

/-- BIT (42_alu.md R185): Z from the AND, N and V from bits 7 and 6 of the operand. -/
def Flags.bitTest (a v : Byte) (p : Flags) : Flags :=
  { p with z := (a &&& v) == 0#8, n := v.getLsbD 7, v := v.getLsbD 6 }

/-! The shifts without their `set_zn`, as 46_unofficial.md R270 (d) names them: the result, and the
flags with C the bit shifted out. -/

/-- `asl(v)` (43_shift_rotate.md R210). -/
def aslBits (v : Byte) (p : Flags) : Byte × Flags := (v <<< 1, { p with c := v.getLsbD 7 })

/-- `lsr(v)` (43_shift_rotate.md R211). -/
def lsrBits (v : Byte) (p : Flags) : Byte × Flags := (v >>> 1, { p with c := v.getLsbD 0 })

/-- `rol(v)` (43_shift_rotate.md R212): the old carry enters bit 0. -/
def rolBits (v : Byte) (p : Flags) : Byte × Flags :=
  ((v <<< 1) ||| flagBit p.c 0, { p with c := v.getLsbD 7 })

/-- `ror(v)` (43_shift_rotate.md R213): the old carry enters bit 7. -/
def rorBits (v : Byte) (p : Flags) : Byte × Flags :=
  ((v >>> 1) ||| flagBit p.c 7, { p with c := v.getLsbD 0 })

/-- `set_zn` applied to a shift's result (43_shift_rotate.md R214). -/
def withZn (r : Byte × Flags) : Byte × Flags := (r.1, r.2.setZn r.1)

/-- ANC's flags (46_unofficial.md R280): Z, N of the result, and C its bit 7. -/
def Flags.anc (r : Byte) (p : Flags) : Flags := { p.setZn r with c := r.getLsbD 7 }

/-- ARR (46_unofficial.md R282): from `t = A & v`, the result and the flags; C is bit 6 of the result
and V the exclusive or of its bits 6 and 5. -/
def arrBits (t : Byte) (p : Flags) : Byte × Flags :=
  let r := (t >>> 1) ||| flagBit p.c 7
  (r, { p.setZn r with c := r.getLsbD 6, v := r.getLsbD 6 ^^ r.getLsbD 5 })

end Sys2Proof.Machine
end

