-- ==== Sys2Proof/Machine/Ops.lean ====
section
/-!
DEFINITION. The named operations over memory, the bus and the registers: the memory listing, the
address map, the bus cycle (20_memory.md R72 to R74), the sampling of the interrupt lines
(60_exceptions.md R313), DMA (R330 to R332), push and pull (40_addressing_modes.md R149), the one
sequence that takes an exception (60_exceptions.md R315, 45_stack_flags_system.md R252), the return
from it (R253), reset (70_reset_and_hazards.md R391 to R393) and the fetch of an instruction's bytes.

The operations on `Bus` take the I flag as an argument, because the sampling at the end of a cycle
reads it (R313); they cannot touch a register of the CPU.
-/

namespace Sys2Proof.Machine

/-! ## The memory listing -/

/-- The stored byte at a key, if one is listed. -/
def Memory.read? : Memory → Nat → Option Byte
  | [], _ => none
  | (k, v) :: rest, key => if k = key then some v else Memory.read? rest key

/-- What an unlisted address reads as: RAM_INIT, or the byte the cartridge came with
(92_eei_decisions.md D11, log entry 2). -/
def Memory.unlisted (key : Nat) : Byte := Config.memInit key

/-- The byte at a key. -/
def Memory.byteAt (m : Memory) (key : Nat) : Byte := (Memory.read? m key).getD (Memory.unlisted key)

/-- Writes a byte, keeping the addresses strictly rising. -/
def Memory.set : Memory → Nat → Byte → Memory
  | [], key, v => [(key, v)]
  | (k, w) :: rest, key, v =>
    if key < k then (key, v) :: (k, w) :: rest
    else if key = k then (key, v) :: rest
    else (k, w) :: Memory.set rest key v

/-- A key the listing may hold: internal RAM or cartridge space (20_memory.md R62). -/
def Memory.keyOk (key : Nat) : Bool :=
  decide (key < 0x800) || (decide (0x4020 ≤ key) && decide (key < 0x10000))

/-- The canonical form: addresses strictly rising, each one a place memory has. -/
def Memory.wf : Memory → Bool
  | [] => true
  | [(k, _)] => Memory.keyOk k
  | (k, _) :: (k', v') :: rest =>
    Memory.keyOk k && decide (k < k') && Memory.wf ((k', v') :: rest)

/-! ## The address map (20_memory.md R62) -/

/-- What answers at an address. -/
inductive BusTarget where
  /-- Internal RAM, by its RAM byte (R63). -/
  | ram (key : Nat)
  /-- A PPU register, 0 to 7 (R64). -/
  | ppu (reg : Nat)
  /-- The APU and I/O registers 0x4000 to 0x4017 (R65). -/
  | io
  /-- Nothing: 0x4018 to 0x401F (R66). -/
  | unmapped
  /-- Cartridge space (R67). -/
  | cart
deriving DecidableEq, Repr

/-- The dispatch of 20_memory.md R62 to R67. RAM repeats every 0x800 bytes up to 0x1FFF and the PPU
registers every 8 bytes up to 0x3FFF. -/
def busTarget (addr : Word) : BusTarget :=
  if addr.toNat < 0x2000 then .ram (addr.toNat % 0x800)
  else if addr.toNat < 0x4000 then .ppu (addr.toNat % 8)
  else if addr.toNat < 0x4018 then .io
  else if addr.toNat < 0x4020 then .unmapped
  else .cart

/-- The key of the memory byte an address names, if it names one: RAM folded onto 0x0000 to 0x07FF,
cartridge space as it is. -/
def memKey (addr : Word) : Option Nat :=
  match busTarget addr with
  | .ram k => some k
  | .cart => some addr.toNat
  | .ppu _ => none
  | .io => none
  | .unmapped => none

/-- The access rights at a cartridge address: those of the first window that holds it, None where no
window does (20_memory.md R83). -/
def windowAccess : List CartWindow → Nat → CartAccess
  | [], _ => .none
  | w :: ws, key => if w.first ≤ key ∧ key ≤ w.last then w.access else windowAccess ws key

/-! ## Reads and writes at the devices -/

/-- The byte the environment answers with in this cycle: the one an agent drives, else a value
drawn (20_memory.md R77, 93_implementation_defined.md U2, U3; log entry 3). -/
def envByte (b : Bus) : Byte × Bus :=
  match b.dataIn with
  | some v => (v, b)
  | none => (Config.drawByte b.draws, { b with draws := b.draws + 1 })

/-- A read of a PPU register. 0x2002 clears the VBlank flag and the write toggle (60_exceptions.md
R346). 0x2007 returns its buffer and refills it, except at palette addresses, which answer at once
and refill the buffer from the nametable below (R347). The bytes PPU memory and the other registers
answer with are the environment's (R348). -/
def ppuRead (reg : Nat) (b : Bus) : Byte × Bus :=
  let r := envByte b
  match reg with
  | 2 => (r.1, { r.2 with ppu := { r.2.ppu with vblank := false, writeToggle := false } })
  | 7 =>
    if b.ppu.vramAddr.toNat < 0x3F00 then
      (b.ppu.readBuffer, { r.2 with ppu := { r.2.ppu with readBuffer := r.1 } })
    else
      (r.1, { r.2 with ppu := { r.2.ppu with readBuffer := Config.drawByte r.2.draws },
                       draws := r.2.draws + 1 })
  | _ => r

/-- A write to a PPU register: a write to 0x2000 outside the warmup period sets the NMI enable
(60_exceptions.md R345, R349); everything else is an event the environment sees (R348). -/
def ppuWrite (reg : Nat) (v : Byte) (b : Bus) : Bus :=
  match reg with
  | 0 =>
    if b.ppu.warmup then b
    else { b with ppu := { b.ppu with nmiEnabled := Config.ctrlNmiEnabled v } }
  | _ => b

/-- `BusRead` (20_memory.md R72): the byte a read of `addr` yields, with the device's side effects. -/
def busRead (addr : Word) (b : Bus) : Byte × Bus :=
  match busTarget addr with
  | .ram k => (Memory.byteAt b.mem k, b)
  | .ppu reg => ppuRead reg b
  | .io => envByte b
  | .unmapped => envByte b
  | .cart =>
    match b.dataIn with
    | some v => (v, b)
    | none =>
      match windowAccess b.windows addr.toNat with
      | .none => envByte b
      | .read => (Memory.byteAt b.mem addr.toNat, b)
      | .readWrite => (Memory.byteAt b.mem addr.toNat, b)

/-- `BusWrite` (20_memory.md R73): a write to 0x4014 requests OAM DMA (60_exceptions.md R330); a
write to cartridge space changes a byte only in a window with write access (20_memory.md R83);
writes nobody takes are dropped (60_exceptions.md R311). -/
def busWrite (addr : Word) (v : Byte) (b : Bus) : Bus :=
  match busTarget addr with
  | .ram k => { b with mem := Memory.set b.mem k v }
  | .ppu reg => ppuWrite reg v b
  | .io => if addr = 0x4014#16 then { b with oamDma := true, oamDmaPage := v } else b
  | .unmapped => b
  | .cart =>
    match windowAccess b.windows addr.toNat with
    | .none => b
    | .read => b
    | .readWrite => { b with mem := Memory.set b.mem addr.toNat v }

/-! ## The bus cycle -/

/-- Whether any IRQ source is asserted: the CPU tests only `irq != 0` (60_exceptions.md R312). -/
def anyIrq (m : IrqMask) : Bool := m.mapper || m.frameCounter || m.dmc

/-- The input `nmi_line`, a level: the VBlank flag and `ctrl.nmi_enabled` (60_exceptions.md R349). -/
def Bus.nmiLine (b : Bus) : Bool := b.ppu.vblank && b.ppu.nmiEnabled

/-- A DMC DMA request (60_exceptions.md R331). -/
def requestDmc (addr : Word) (b : Bus) : Bus :=
  { b with dmcDma := true, halt := true, dummyRead := true, dmcDmaAddr := addr }

/-- `CatchUp` (20_memory.md R74): the environment agents advance to this cycle. Where the list of
inputs has run out the lines keep their level and no agent drives the data bus (log entry 4). -/
def catchUp (b : Bus) : Bus :=
  match b.inputs with
  | [] => { b with dataIn := none }
  | inp :: rest =>
    let b' := { b with inputs := rest, dataIn := inp.data, irqLines := inp.irqLines,
                       ppu := inp.ppu.getD b.ppu, windows := inp.windows.getD b.windows }
    match inp.dmcReq with
    | none => b'
    | some addr => requestDmc addr b'

/-- The start of every cycle: `cycle <- cycle + 1; CatchUp()`. -/
def beginCycle (b : Bus) : Bus := catchUp { b with cycle := b.cycle + 1 }

/-- `EndCycle` (60_exceptions.md R313), with the I flag as it stands when the cycle ends. -/
def endCycle (i : Bool) (b : Bus) : Bus :=
  { b with prevNmi := b.nmi, nmi := b.nmi || (b.nmiLine && !b.nmiLinePrev),
           nmiLinePrev := b.nmiLine, irq := b.irqLines, prevRunIrq := b.runIrq,
           runIrq := anyIrq b.irqLines && !i }

/-- A read cycle that does not test for DMA: `DmaRead(a)` of 60_exceptions.md R332, and what
`MemRead` does after its test (20_memory.md R72). -/
def Bus.readCycle (i : Bool) (addr : Word) (b : Bus) : Byte × Bus :=
  let r := busRead addr (beginCycle b)
  (r.1, endCycle i { r.2 with openBus := r.1, trace := .read addr r.1 :: r.2.trace })

/-- A write cycle: `MemWrite` (20_memory.md R73) and `DmaWrite` (60_exceptions.md R332). -/
def Bus.writeCycle (i : Bool) (addr : Word) (v : Byte) (b : Bus) : Bus :=
  let b' := busWrite addr v (beginCycle b)
  endCycle i { b' with openBus := v, trace := .write addr v :: b'.trace }

/-- `IdleCycle()`: a cycle with no bus access (60_exceptions.md R332). -/
def Bus.idleCycle (i : Bool) (b : Bus) : Bus :=
  let b' := beginCycle b
  endCycle i { b' with trace := .idle :: b'.trace }

/-! ## DMA (60_exceptions.md R332) -/

/-- A dummy or alignment cycle of the DMA unit: the delayed read again, or an idle cycle where that
read is of a controller register. -/
def dmaWait (i skip : Bool) (addr : Word) (b : Bus) : Bus :=
  if skip then b.idleCycle i else (b.readCycle i addr).2

/-- The halt and dummy cycles the DMC DMA owes: each iteration of the loop pays one. -/
def dmaPayDebt (b : Bus) : Bus :=
  if b.halt then { b with halt := false }
  else if b.dummyRead then { b with dummyRead := false }
  else b

/-- The loop of `RunDma`: `idx` is the index of the next OAM source byte, `n` the OAM DMA cycles
done, `latch` the byte read last. Cycles that begin with an even count are reads ("get"), the others
writes. The first argument bounds the iterations; `runDma` gives more than the loop ever takes
(log entry 14). -/
def dmaLoop (i skip : Bool) (addr : Word) : Nat → Byte → Nat → Byte → Bus → Bus
  | 0, _, _, _, b => b
  | fuel + 1, idx, n, latch, b =>
    if b.oamDma || b.dmcDma then
      let ready := b.dmcDma && !b.halt && !b.dummyRead
      let b' := dmaPayDebt b
      if b.cycle % 2 = 0 then
        if ready then
          let r := b'.readCycle i b'.dmcDmaAddr
          dmaLoop i skip addr fuel idx n latch { r.2 with dmcDma := false, dmcBuffer := some r.1 }
        else if b.oamDma then
          let r := b'.readCycle i (mk16 b'.oamDmaPage idx)
          dmaLoop i skip addr fuel (idx + 1) (n + 1) r.1 r.2
        else dmaLoop i skip addr fuel idx n latch (dmaWait i skip addr b')
      else if b.oamDma && n % 2 = 1 then
        let b2 := b'.writeCycle i 0x2004#16 latch
        dmaLoop i skip addr fuel idx (n + 1) latch
          (if n + 1 = 512 then { b2 with oamDma := false } else b2)
      else dmaLoop i skip addr fuel idx n latch (dmaWait i skip addr b')
    else b

/-- The reads of the two controller registers are not repeated (60_exceptions.md R332). -/
def dmaSkips (addr : Word) : Bool := addr = 0x4016#16 || addr = 0x4017#16

/-- `RunDma(addr)`: the halt cycle, then the loop. A running loop ends at most 600 iterations after
the inputs that could request another DMC DMA have run out. -/
def runDma (i : Bool) (addr : Word) (b : Bus) : Bus :=
  let b' := { (b.readCycle i addr).2 with halt := false }
  dmaLoop i (dmaSkips addr) addr (b'.inputs.length + 600) 0 0 0 b'

/-- Whether a read cycle is held up by DMA (20_memory.md R72). -/
def Bus.dmaPending (b : Bus) : Bool := b.halt || b.oamDma || b.dmcDma

/-- `MemRead(addr, 1)` on the bus (20_memory.md R72). -/
def Bus.read (i : Bool) (addr : Word) (b : Bus) : Byte × Bus :=
  (if b.dmaPending then runDma i addr b else b).readCycle i addr

/-! ## Registers and cycles of the machine -/

/-- One setter per register: all writes of the meanings go through these. -/
def State.setA (v : Byte) (s : State) : State := { s with a := v }
def State.setX (v : Byte) (s : State) : State := { s with x := v }
def State.setY (v : Byte) (s : State) : State := { s with y := v }
def State.setSp (v : Byte) (s : State) : State := { s with sp := v }
def State.setPc (v : Word) (s : State) : State := { s with pc := v }
def State.setP (f : Flags) (s : State) : State := { s with p := f }
def State.setBus (b : Bus) (s : State) : State := { s with bus := b }
def State.setLatches (l : Latches) (s : State) : State := { s with latches := l }

/-- `set_zn(v)` on the machine's flags (10_state.md R31). -/
def State.setZn (v : Byte) (s : State) : State := s.setP (s.p.setZn v)

/-- `MemRead(addr, 1)` (20_memory.md R72). -/
def memRead (addr : Word) (s : State) : Byte × State :=
  let r := s.bus.read s.p.i addr
  (r.1, s.setBus r.2)

/-- `dummy MemRead(addr, 1)`: the same cycle, its value thrown away (00_scope.md R13). -/
def dummyRead (addr : Word) (s : State) : State := (memRead addr s).2

/-- `MemWrite(addr, 1, v)` (20_memory.md R73). -/
def memWrite (addr : Word) (v : Byte) (s : State) : State := s.setBus (s.bus.writeCycle s.p.i addr v)

/-- `MemRead(addr, 2)`: low byte first (20_memory.md R88). -/
def memRead16 (addr : Word) (s : State) : Word × State :=
  let l := memRead addr s
  let h := memRead (addr + 1) l.2
  (mk16 h.1 l.1, h.2)

/-- `MemRead16Bug(addr)`: the successor does not carry into the high byte (20_memory.md R88). -/
def memRead16Bug (addr : Word) (s : State) : Word × State :=
  let l := memRead addr s
  let h := memRead (mk16 (hi addr) (lo addr + 1)) l.2
  (mk16 h.1 l.1, h.2)

/-- `MemRead16Zp(z)`: the successor wraps within zero page (20_memory.md R88). -/
def memRead16Zp (z : Byte) (s : State) : Word × State :=
  let l := memRead (zext16 z) s
  let h := memRead (zext16 (z + 1)) l.2
  (mk16 h.1 l.1, h.2)

/-! ## The stack (40_addressing_modes.md R149, 10_state.md R46) -/

/-- `0x0100 | SP`. -/
def stackAddr (sp : Byte) : Word := 0x0100#16 ||| zext16 sp

/-- `Push(v)`: write, then decrement. -/
def push (v : Byte) (s : State) : State :=
  (memWrite (stackAddr s.sp) v s).setSp (s.sp - 1)

/-- `Pull()`: increment, then read. -/
def pull (s : State) : Byte × State :=
  memRead (stackAddr (s.sp + 1)) (s.setSp (s.sp + 1))

/-- The dummy read of the stack byte at `SP`. -/
def dummyStackRead (s : State) : State := dummyRead (stackAddr s.sp) s

/-- Pushes a 16-bit value, high byte first. -/
def push16 (w : Word) (s : State) : State := push (lo w) (push (hi w) s)

/-- Pulls a 16-bit value, low byte first. -/
def pull16 (s : State) : Word × State :=
  let l := pull s
  let h := pull l.2
  (mk16 h.1 l.1, h.2)

/-! ## Taking an exception and returning from it -/

/-- The vector an entry takes: the NMI's when the `nmi` latch is set, else the IRQ and BRK one
(20_memory.md R68, 60_exceptions.md R316). -/
def entryVector (nmi : Bool) : Word := if nmi then 0xFFFA#16 else 0xFFFE#16

/-- The sequence BRK, IRQ and NMI share (60_exceptions.md R315, 45_stack_flags_system.md R252): push
`PC`, choose the vector and clear the `nmi` latch if it was taken, push `P` with B as given, set I,
load `PC` from the vector. -/
def takeException (brk : Bool) (s : State) : State :=
  let s1 := push16 s.pc s
  let vec := entryVector s1.bus.nmi
  let s2 := s1.setBus { s1.bus with nmi := false }
  let s3 := push (s2.p.pushByte brk) s2
  let r := memRead16 vec (s3.setP { s3.p with i := true })
  r.2.setPc r.1

/-- The interrupt sequence `Interrupt` (60_exceptions.md R315): two dummy reads at `PC`, then the
shared sequence with B clear. -/
def interrupt (s : State) : State :=
  takeException false (dummyRead s.pc (dummyRead s.pc s))

/-- The instruction-end check (60_exceptions.md R314). -/
def instructionEnd (s : State) : State :=
  if s.bus.prevRunIrq || s.bus.prevNmi then interrupt s else s

/-- The return from an exception: pull `P`, which takes effect at once, then pull `PC`
(45_stack_flags_system.md R253, 60_exceptions.md R324). -/
def returnFromException (s : State) : State :=
  let b := pull s
  let r := pull16 (b.2.setP (.ofByte b.1))
  r.2.setPc r.1

/-! ## Reset (70_reset_and_hazards.md R391 to R393) -/

/-- `n` cycles with no bus access. -/
def idleCycles (i : Bool) : Nat → Bus → Bus
  | 0, b => b
  | n + 1, b => idleCycles i n (b.idleCycle i)

/-- A 16-bit vector read through the bus at no cycle cost (70_reset_and_hazards.md R393). -/
def vectorRead (addr : Word) (b : Bus) : Word × Bus :=
  let l := busRead addr b
  let h := busRead (addr + 1) l.2
  (mk16 h.1 l.1, h.2)

/-- The latches after a reset are unspecified: drawn (10_state.md R45, log entry 6). -/
def drawLatches (n : Nat) : Latches :=
  { instr := table (Config.drawByte n), absAddr := Config.drawWord n,
    relAddr := Config.drawByte (n + 1), fetchedData := Config.drawByte (n + 2),
    base := Config.drawWord (n + 1), pageCrossed := Config.drawBool n }

/-- The bus side when a reset begins: cycle counter, interrupt latches and DMA flags cleared
(70_reset_and_hazards.md R393); `open_bus` unspecified. -/
def Bus.resetLatches (b : Bus) : Bus :=
  { b with cycle := 0, nmi := false, prevNmi := false, nmiLinePrev := false, irq := .none,
           runIrq := false, prevRunIrq := false, oamDma := false, dmcDma := false, halt := false,
           dummyRead := false, dataIn := none, openBus := Config.drawByte (b.draws + 3),
           draws := b.draws + 4, trace := [] }

/-- The common part of both resets (70_reset_and_hazards.md R393). -/
def resetCommon (s : State) : State :=
  let v := vectorRead 0xFFFC#16 s.bus.resetLatches
  { s with corrupted := false, resetReq := none, latches := drawLatches s.bus.draws, pc := v.1,
           bus := idleCycles s.p.i 7 v.2 }

/-- A Hard reset: the registers of R391; internal RAM holds RAM_INIT again; the cartridge keeps its
bytes and the PPU is in its warmup period (log entry 16). -/
def hardReset (s : State) : State :=
  resetCommon
    { s with a := 0, x := 0, y := 0, sp := 0xFD#8,
             p := { c := false, z := false, i := true, d := false, v := false, n := false },
             bus := { s.bus with mem := s.bus.mem.filter (fun c => decide (0x800 ≤ c.1)),
                                 ppu := { s.bus.ppu with warmup := true } } }

/-- A Soft reset: I set, `SP` three lower, nothing written to the stack (R392). -/
def softReset (s : State) : State :=
  resetCommon { s with p := { s.p with i := true }, sp := s.sp - 3 }

/-- The reset the host asks for (R390). -/
def applyReset : ResetKind → State → State
  | .hard, s => hardReset s
  | .soft, s => softReset s

/-! ## Fetching an instruction (40_addressing_modes.md R130, R131) -/

/-- Consumes one instruction byte: `MemRead(PC, 1); PC <- PC +16 1`. -/
def fetchByte (s : State) : Byte × State :=
  let r := memRead s.pc s
  (r.1, r.2.setPc (r.2.pc + 1))

/-- Fetches `n` operand bytes. -/
def fetchBytes : Nat → State → List Byte × State
  | 0, s => ([], s)
  | n + 1, s =>
    let r := fetchByte s
    let rs := fetchBytes n r.2
    (r.1 :: rs.1, rs.2)

/-- Fetches the opcode and its operand bytes, one read cycle each: all operand bytes come before any
other access of the instruction (20_memory.md R82, 40_addressing_modes.md R150). -/
def fetchInstr (s : State) : Instr × State :=
  let o := fetchByte s
  let e := table o.1
  let rs := fetchBytes e.mode.operandBytes (o.2.setLatches { o.2.latches with instr := e })
  (instrOf o.1 (rs.1.getD 0 0) (rs.1.getD 1 0), rs.2)

/-- The jammed machine: `corrupted` is set and a step is to be refused (60_exceptions.md R329). -/
def State.jammed (s : State) : Bool :=
  s.corrupted && decide (s.params.stepWhenCorrupted = .refuse)

/-! ## Loading an instruction for the next step -/

/-- The listing with `bytes` stored from `addr` on, at the addresses memory answers. -/
def pokeBytes : List Byte → Word → Memory → Memory
  | [], _, m => m
  | v :: vs, addr, m =>
    pokeBytes vs (addr + 1)
      (match memKey addr with
        | some k => Memory.set m k v
        | none => m)

end Sys2Proof.Machine
end

