-- ==== Sys2Proof/Machine/Operands.lean ====
section
/-!
DEFINITION. The 13 addressing modes (40_addressing_modes.md R132 to R145) as far as they go beyond the
fetch of the operand bytes, which `fetchInstr` has made, and the operand accesses of the kinds
read, store and rmw (R147, R148). A mode leaves the effective address in the latch `absAddr`, and
`base` and `pageCrossed` where it indexes; "all modes other than the three that call `Indexed` leave
`page_crossed = 0`" (section 3).
-/

namespace Sys2Proof.Machine

/-- Leaves an effective address that no page crossing led to. -/
def setEa (ea : Word) (s : State) : State :=
  s.setLatches { s.latches with absAddr := ea, pageCrossed := false }

/-- No page was crossed; the effective address is not set. -/
def noEa (s : State) : State := s.setLatches { s.latches with pageCrossed := false }

/-- `Indexed(b, i, kind)` (40_addressing_modes.md R145): the effective address, and a dummy read before
the carry into the high byte where a page is crossed or the kind is store or rmw (R146). -/
def indexed (b : Word) (i : Byte) (kind : Kind) (s : State) : State :=
  let ea := b + zext16 i
  let crossed := decide (hi ea ≠ hi b)
  let s1 := s.setLatches { s.latches with base := b, pageCrossed := crossed }
  let s2 := if crossed || decide (kind = .store) || decide (kind = .rmw) then
      dummyRead (mk16 (hi b) (lo ea)) s1
    else s1
  s2.setLatches { s2.latches with absAddr := ea }

/-- Implied (R132): the next opcode byte is read and thrown away. -/
def modeImp (s : State) : State := dummyRead s.pc (noEa s)

/-- Accumulator (R133): the bus behaviour of Implied. -/
def modeAcc (s : State) : State := dummyRead s.pc (noEa s)

/-- Immediate (R134): the operand byte's own address, the one before `PC`; the fetch of that byte was
the operand read, so it is in `fetchedData` (R147). -/
def modeImm (imm : Byte) (s : State) : State :=
  let s1 := setEa (s.pc - 1) s
  s1.setLatches { s1.latches with fetchedData := imm }

/-- ZeroPage (R135). -/
def modeZp0 (zp : Byte) (s : State) : State := setEa (zext16 zp) s

/-- ZeroPageX (R136): a dummy read at the un-indexed address, then the sum within page 0. -/
def modeZpx (zp : Byte) (s : State) : State :=
  setEa (zext16 (zp + s.x)) (dummyRead (zext16 zp) s)

/-- ZeroPageY (R137). -/
def modeZpy (zp : Byte) (s : State) : State :=
  setEa (zext16 (zp + s.y)) (dummyRead (zext16 zp) s)

/-- Relative (R138): the offset byte. -/
def modeRel (rel : Byte) (s : State) : State :=
  s.setLatches { s.latches with relAddr := rel, pageCrossed := false }

/-- Absolute (R139). -/
def modeAbs (addr : Word) (s : State) : State := setEa addr s

/-- AbsoluteX (R140). -/
def modeAbx (addr : Word) (kind : Kind) (s : State) : State := indexed addr s.x kind s

/-- AbsoluteY (R141). -/
def modeAby (addr : Word) (kind : Kind) (s : State) : State := indexed addr s.y kind s

/-- Indirect (R142): the target through the page-wrapping 16-bit read. -/
def modeInd (ptr : Word) (s : State) : State :=
  let r := memRead16Bug ptr s
  setEa r.1 r.2

/-- IndirectX (R143): a dummy read, then the pointer at `zp + X` within page 0. -/
def modeIdx (zp : Byte) (s : State) : State :=
  let r := memRead16Zp (zp + s.x) (dummyRead (zext16 zp) s)
  setEa r.1 r.2

/-- IndirectY (R144): the base from the pointer at `zp`, then the index. -/
def modeIdy (zp : Byte) (kind : Kind) (s : State) : State :=
  let r := memRead16Zp zp s
  indexed r.1 r.2.y kind r.2

/-! ## Operand accesses by kind -/

/-- A read-kind operation (R147): the operand byte from the effective address, then its effect. -/
def readOp (effect : Byte → State → State) (s : State) : State :=
  let r := memRead s.latches.absAddr s
  effect r.1 (r.2.setLatches { r.2.latches with fetchedData := r.1 })

/-- A read-kind operation in Immediate mode: its operand read has been made by the fetch (R134). -/
def immOp (effect : Byte → State → State) (s : State) : State := effect s.latches.fetchedData s

/-- A store-kind operation (R147): one byte to the effective address, which is not read. -/
def storeOp (value : State → Byte) (s : State) : State :=
  memWrite s.latches.absAddr (value s) s

/-- A read-modify-write operation (R148): read, write the old value back, compute, write the new. -/
def rmwOp (f : Byte → State → Byte × State) (s : State) : State :=
  let ea := s.latches.absAddr
  let r := memRead ea s
  let n := f r.1 (memWrite ea r.1 r.2)
  memWrite ea n.1 n.2

/-- An accumulator operation (43_shift_rotate.md R214): `A <- f(A)`. -/
def accOp (f : Byte → State → Byte × State) (s : State) : State :=
  let n := f s.a s
  n.2.setA n.1

end Sys2Proof.Machine
end

