-- ==== Sys2Proof/Machine/Alu.lean ====
section
/-!
DEFINITION. Arithmetic, logic, compare, increment and decrement (42_alu.md R180 to R196).
-/

namespace Sys2Proof.Machine

/-- ADC's effect (R180). -/
def adcEffect (v : Byte) (s : State) : State :=
  let r := adcFlags s.a v s.p
  (s.setA r.1).setP r.2

/-- SBC's effect (R181). -/
def sbcEffect (v : Byte) (s : State) : State :=
  let r := sbcFlags s.a v s.p
  (s.setA r.1).setP r.2

/-- AND's effect (R182). -/
def andEffect (v : Byte) (s : State) : State := (s.setA (s.a &&& v)).setZn (s.a &&& v)

/-- ORA's effect (R183). -/
def oraEffect (v : Byte) (s : State) : State := (s.setA (s.a ||| v)).setZn (s.a ||| v)

/-- EOR's effect (R184). -/
def eorEffect (v : Byte) (s : State) : State := (s.setA (s.a ^^^ v)).setZn (s.a ^^^ v)

/-- BIT's effect (R185): only flags. -/
def bitEffect (v : Byte) (s : State) : State := s.setP (s.p.bitTest s.a v)

/-- CMP's effect (R186): only flags. -/
def cmpEffect (v : Byte) (s : State) : State := s.setP (s.p.compare s.a v)

/-- CPX's effect (R187). -/
def cpxEffect (v : Byte) (s : State) : State := s.setP (s.p.compare s.x v)

/-- CPY's effect (R188). -/
def cpyEffect (v : Byte) (s : State) : State := s.setP (s.p.compare s.y v)

/-- INC's new value and flags (R189). -/
def incFn (v : Byte) (s : State) : Byte × State := (v + 1, s.setZn (v + 1))

/-- DEC's new value and flags (R190). -/
def decFn (v : Byte) (s : State) : Byte × State := (v - 1, s.setZn (v - 1))

/-- INX (R191). -/
def inxOp (s : State) : State := (s.setX (s.x + 1)).setZn (s.x + 1)

/-- INY (R192). -/
def inyOp (s : State) : State := (s.setY (s.y + 1)).setZn (s.y + 1)

/-- DEX (R193). -/
def dexOp (s : State) : State := (s.setX (s.x - 1)).setZn (s.x - 1)

/-- DEY (R194). -/
def deyOp (s : State) : State := (s.setY (s.y - 1)).setZn (s.y - 1)

/-! ## The instructions -/

/-- ADC IDX, opcode 0x61 (R180). -/
def execAdcIdx (zp : Byte) (s : State) : Result :=
  .next (readOp adcEffect (modeIdx zp s))

/-- ADC ZP0, opcode 0x65 (R180). -/
def execAdcZp0 (zp : Byte) (s : State) : Result :=
  .next (readOp adcEffect (modeZp0 zp s))

/-- ADC IMM, opcode 0x69 (R180). -/
def execAdcImm (imm : Byte) (s : State) : Result :=
  .next (immOp adcEffect (modeImm imm s))

/-- ADC ABS, opcode 0x6D (R180). -/
def execAdcAbs (addr : Word) (s : State) : Result :=
  .next (readOp adcEffect (modeAbs addr s))

/-- ADC IDY, opcode 0x71 (R180). -/
def execAdcIdy (zp : Byte) (s : State) : Result :=
  .next (readOp adcEffect (modeIdy zp .read s))

/-- ADC ZPX, opcode 0x75 (R180). -/
def execAdcZpx (zp : Byte) (s : State) : Result :=
  .next (readOp adcEffect (modeZpx zp s))

/-- ADC ABY, opcode 0x79 (R180). -/
def execAdcAby (addr : Word) (s : State) : Result :=
  .next (readOp adcEffect (modeAby addr .read s))

/-- ADC ABX, opcode 0x7D (R180). -/
def execAdcAbx (addr : Word) (s : State) : Result :=
  .next (readOp adcEffect (modeAbx addr .read s))

/-- SBC IDX, opcode 0xE1 (R181). -/
def execSbcIdx (zp : Byte) (s : State) : Result :=
  .next (readOp sbcEffect (modeIdx zp s))

/-- SBC ZP0, opcode 0xE5 (R181). -/
def execSbcZp0 (zp : Byte) (s : State) : Result :=
  .next (readOp sbcEffect (modeZp0 zp s))

/-- SBC IMM, opcode 0xE9 (R181). -/
def execSbcImm (imm : Byte) (s : State) : Result :=
  .next (immOp sbcEffect (modeImm imm s))

/-- SBC ABS, opcode 0xED (R181). -/
def execSbcAbs (addr : Word) (s : State) : Result :=
  .next (readOp sbcEffect (modeAbs addr s))

/-- SBC IDY, opcode 0xF1 (R181). -/
def execSbcIdy (zp : Byte) (s : State) : Result :=
  .next (readOp sbcEffect (modeIdy zp .read s))

/-- SBC ZPX, opcode 0xF5 (R181). -/
def execSbcZpx (zp : Byte) (s : State) : Result :=
  .next (readOp sbcEffect (modeZpx zp s))

/-- SBC ABY, opcode 0xF9 (R181). -/
def execSbcAby (addr : Word) (s : State) : Result :=
  .next (readOp sbcEffect (modeAby addr .read s))

/-- SBC ABX, opcode 0xFD (R181). -/
def execSbcAbx (addr : Word) (s : State) : Result :=
  .next (readOp sbcEffect (modeAbx addr .read s))

/-- AND IDX, opcode 0x21 (R182). -/
def execAndIdx (zp : Byte) (s : State) : Result :=
  .next (readOp andEffect (modeIdx zp s))

/-- AND ZP0, opcode 0x25 (R182). -/
def execAndZp0 (zp : Byte) (s : State) : Result :=
  .next (readOp andEffect (modeZp0 zp s))

/-- AND IMM, opcode 0x29 (R182). -/
def execAndImm (imm : Byte) (s : State) : Result :=
  .next (immOp andEffect (modeImm imm s))

/-- AND ABS, opcode 0x2D (R182). -/
def execAndAbs (addr : Word) (s : State) : Result :=
  .next (readOp andEffect (modeAbs addr s))

/-- AND IDY, opcode 0x31 (R182). -/
def execAndIdy (zp : Byte) (s : State) : Result :=
  .next (readOp andEffect (modeIdy zp .read s))

/-- AND ZPX, opcode 0x35 (R182). -/
def execAndZpx (zp : Byte) (s : State) : Result :=
  .next (readOp andEffect (modeZpx zp s))

/-- AND ABY, opcode 0x39 (R182). -/
def execAndAby (addr : Word) (s : State) : Result :=
  .next (readOp andEffect (modeAby addr .read s))

/-- AND ABX, opcode 0x3D (R182). -/
def execAndAbx (addr : Word) (s : State) : Result :=
  .next (readOp andEffect (modeAbx addr .read s))

/-- ORA IDX, opcode 0x01 (R183). -/
def execOraIdx (zp : Byte) (s : State) : Result :=
  .next (readOp oraEffect (modeIdx zp s))

/-- ORA ZP0, opcode 0x05 (R183). -/
def execOraZp0 (zp : Byte) (s : State) : Result :=
  .next (readOp oraEffect (modeZp0 zp s))

/-- ORA IMM, opcode 0x09 (R183). -/
def execOraImm (imm : Byte) (s : State) : Result :=
  .next (immOp oraEffect (modeImm imm s))

/-- ORA ABS, opcode 0x0D (R183). -/
def execOraAbs (addr : Word) (s : State) : Result :=
  .next (readOp oraEffect (modeAbs addr s))

/-- ORA IDY, opcode 0x11 (R183). -/
def execOraIdy (zp : Byte) (s : State) : Result :=
  .next (readOp oraEffect (modeIdy zp .read s))

/-- ORA ZPX, opcode 0x15 (R183). -/
def execOraZpx (zp : Byte) (s : State) : Result :=
  .next (readOp oraEffect (modeZpx zp s))

/-- ORA ABY, opcode 0x19 (R183). -/
def execOraAby (addr : Word) (s : State) : Result :=
  .next (readOp oraEffect (modeAby addr .read s))

/-- ORA ABX, opcode 0x1D (R183). -/
def execOraAbx (addr : Word) (s : State) : Result :=
  .next (readOp oraEffect (modeAbx addr .read s))

/-- EOR IDX, opcode 0x41 (R184). -/
def execEorIdx (zp : Byte) (s : State) : Result :=
  .next (readOp eorEffect (modeIdx zp s))

/-- EOR ZP0, opcode 0x45 (R184). -/
def execEorZp0 (zp : Byte) (s : State) : Result :=
  .next (readOp eorEffect (modeZp0 zp s))

/-- EOR IMM, opcode 0x49 (R184). -/
def execEorImm (imm : Byte) (s : State) : Result :=
  .next (immOp eorEffect (modeImm imm s))

/-- EOR ABS, opcode 0x4D (R184). -/
def execEorAbs (addr : Word) (s : State) : Result :=
  .next (readOp eorEffect (modeAbs addr s))

/-- EOR IDY, opcode 0x51 (R184). -/
def execEorIdy (zp : Byte) (s : State) : Result :=
  .next (readOp eorEffect (modeIdy zp .read s))

/-- EOR ZPX, opcode 0x55 (R184). -/
def execEorZpx (zp : Byte) (s : State) : Result :=
  .next (readOp eorEffect (modeZpx zp s))

/-- EOR ABY, opcode 0x59 (R184). -/
def execEorAby (addr : Word) (s : State) : Result :=
  .next (readOp eorEffect (modeAby addr .read s))

/-- EOR ABX, opcode 0x5D (R184). -/
def execEorAbx (addr : Word) (s : State) : Result :=
  .next (readOp eorEffect (modeAbx addr .read s))

/-- BIT ZP0, opcode 0x24 (R185). -/
def execBitZp0 (zp : Byte) (s : State) : Result :=
  .next (readOp bitEffect (modeZp0 zp s))

/-- BIT ABS, opcode 0x2C (R185). -/
def execBitAbs (addr : Word) (s : State) : Result :=
  .next (readOp bitEffect (modeAbs addr s))

/-- CMP IDX, opcode 0xC1 (R186). -/
def execCmpIdx (zp : Byte) (s : State) : Result :=
  .next (readOp cmpEffect (modeIdx zp s))

/-- CMP ZP0, opcode 0xC5 (R186). -/
def execCmpZp0 (zp : Byte) (s : State) : Result :=
  .next (readOp cmpEffect (modeZp0 zp s))

/-- CMP IMM, opcode 0xC9 (R186). -/
def execCmpImm (imm : Byte) (s : State) : Result :=
  .next (immOp cmpEffect (modeImm imm s))

/-- CMP ABS, opcode 0xCD (R186). -/
def execCmpAbs (addr : Word) (s : State) : Result :=
  .next (readOp cmpEffect (modeAbs addr s))

/-- CMP IDY, opcode 0xD1 (R186). -/
def execCmpIdy (zp : Byte) (s : State) : Result :=
  .next (readOp cmpEffect (modeIdy zp .read s))

/-- CMP ZPX, opcode 0xD5 (R186). -/
def execCmpZpx (zp : Byte) (s : State) : Result :=
  .next (readOp cmpEffect (modeZpx zp s))

/-- CMP ABY, opcode 0xD9 (R186). -/
def execCmpAby (addr : Word) (s : State) : Result :=
  .next (readOp cmpEffect (modeAby addr .read s))

/-- CMP ABX, opcode 0xDD (R186). -/
def execCmpAbx (addr : Word) (s : State) : Result :=
  .next (readOp cmpEffect (modeAbx addr .read s))

/-- CPX IMM, opcode 0xE0 (R187). -/
def execCpxImm (imm : Byte) (s : State) : Result :=
  .next (immOp cpxEffect (modeImm imm s))

/-- CPX ZP0, opcode 0xE4 (R187). -/
def execCpxZp0 (zp : Byte) (s : State) : Result :=
  .next (readOp cpxEffect (modeZp0 zp s))

/-- CPX ABS, opcode 0xEC (R187). -/
def execCpxAbs (addr : Word) (s : State) : Result :=
  .next (readOp cpxEffect (modeAbs addr s))

/-- CPY IMM, opcode 0xC0 (R188). -/
def execCpyImm (imm : Byte) (s : State) : Result :=
  .next (immOp cpyEffect (modeImm imm s))

/-- CPY ZP0, opcode 0xC4 (R188). -/
def execCpyZp0 (zp : Byte) (s : State) : Result :=
  .next (readOp cpyEffect (modeZp0 zp s))

/-- CPY ABS, opcode 0xCC (R188). -/
def execCpyAbs (addr : Word) (s : State) : Result :=
  .next (readOp cpyEffect (modeAbs addr s))

/-- INC ZP0, opcode 0xE6 (R189). -/
def execIncZp0 (zp : Byte) (s : State) : Result :=
  .next (rmwOp incFn (modeZp0 zp s))

/-- INC ABS, opcode 0xEE (R189). -/
def execIncAbs (addr : Word) (s : State) : Result :=
  .next (rmwOp incFn (modeAbs addr s))

/-- INC ZPX, opcode 0xF6 (R189). -/
def execIncZpx (zp : Byte) (s : State) : Result :=
  .next (rmwOp incFn (modeZpx zp s))

/-- INC ABX, opcode 0xFE (R189). -/
def execIncAbx (addr : Word) (s : State) : Result :=
  .next (rmwOp incFn (modeAbx addr .rmw s))

/-- DEC ZP0, opcode 0xC6 (R190). -/
def execDecZp0 (zp : Byte) (s : State) : Result :=
  .next (rmwOp decFn (modeZp0 zp s))

/-- DEC ABS, opcode 0xCE (R190). -/
def execDecAbs (addr : Word) (s : State) : Result :=
  .next (rmwOp decFn (modeAbs addr s))

/-- DEC ZPX, opcode 0xD6 (R190). -/
def execDecZpx (zp : Byte) (s : State) : Result :=
  .next (rmwOp decFn (modeZpx zp s))

/-- DEC ABX, opcode 0xDE (R190). -/
def execDecAbx (addr : Word) (s : State) : Result :=
  .next (rmwOp decFn (modeAbx addr .rmw s))

/-- INX IMP, opcode 0xE8 (R191). -/
def execInx (s : State) : Result :=
  .next (inxOp (modeImp s))

/-- INY IMP, opcode 0xC8 (R192). -/
def execIny (s : State) : Result :=
  .next (inyOp (modeImp s))

/-- DEX IMP, opcode 0xCA (R193). -/
def execDex (s : State) : Result :=
  .next (dexOp (modeImp s))

/-- DEY IMP, opcode 0x88 (R194). -/
def execDey (s : State) : Result :=
  .next (deyOp (modeImp s))

end Sys2Proof.Machine
end

