-- ==== Sys2Proof/Machine/Branch.lean ====
section
/-!
DEFINITION. Branches, jumps, calls and returns (44_branch_jump.md R220 to R233).
-/

namespace Sys2Proof.Machine

/-- A taken branch cancels an IRQ that has just become runnable (R220, 60_exceptions.md R322). -/
def branchQuirk (s : State) : State :=
  s.setBus { s.bus with runIrq := s.bus.runIrq && s.bus.prevRunIrq }

/-- `Branch(cond)` (R220). The target is compared with the page of `PC` after the operand fetch;
both dummy reads are at that `PC`. -/
def branch (cond : Flags → Bool) (s : State) : State :=
  if cond s.p then
    let s1 := dummyRead s.pc (branchQuirk s)
    let t := s1.pc + sext16 s1.latches.relAddr
    let s2 := if hi t ≠ hi s1.pc then dummyRead s1.pc s1 else s1
    s2.setPc t
  else s

/-- BCC (R221). -/
def bccCond (p : Flags) : Bool := !p.c
/-- BCS (R222). -/
def bcsCond (p : Flags) : Bool := p.c
/-- BEQ (R223). -/
def beqCond (p : Flags) : Bool := p.z
/-- BNE (R224). -/
def bneCond (p : Flags) : Bool := !p.z
/-- BMI (R225). -/
def bmiCond (p : Flags) : Bool := p.n
/-- BPL (R226). -/
def bplCond (p : Flags) : Bool := !p.n
/-- BVC (R227). -/
def bvcCond (p : Flags) : Bool := !p.v
/-- BVS (R228). -/
def bvsCond (p : Flags) : Bool := p.v

/-- JMP (R229, R230): `PC <- abs_addr`. -/
def jmpOp (s : State) : State := s.setPc s.latches.absAddr

/-- JSR (R231): a dummy stack read, the address of the JSR's third byte pushed high byte first, then
the jump. -/
def jsrOp (s : State) : State :=
  let s1 := push16 (s.pc - 1) (dummyStackRead s)
  s1.setPc s1.latches.absAddr

/-- RTS (R232): a dummy stack read, the return address pulled, one added, a dummy read there. -/
def rtsOp (s : State) : State :=
  let r := pull16 (dummyStackRead s)
  dummyRead (r.1 + 1) (r.2.setPc (r.1 + 1))

/-! ## The instructions -/

/-- BCC REL, opcode 0x90 (R221). -/
def execBcc (rel : Byte) (s : State) : Result :=
  .next (branch bccCond (modeRel rel s))

/-- BCS REL, opcode 0xB0 (R222). -/
def execBcs (rel : Byte) (s : State) : Result :=
  .next (branch bcsCond (modeRel rel s))

/-- BEQ REL, opcode 0xF0 (R223). -/
def execBeq (rel : Byte) (s : State) : Result :=
  .next (branch beqCond (modeRel rel s))

/-- BNE REL, opcode 0xD0 (R224). -/
def execBne (rel : Byte) (s : State) : Result :=
  .next (branch bneCond (modeRel rel s))

/-- BMI REL, opcode 0x30 (R225). -/
def execBmi (rel : Byte) (s : State) : Result :=
  .next (branch bmiCond (modeRel rel s))

/-- BPL REL, opcode 0x10 (R226). -/
def execBpl (rel : Byte) (s : State) : Result :=
  .next (branch bplCond (modeRel rel s))

/-- BVC REL, opcode 0x50 (R227). -/
def execBvc (rel : Byte) (s : State) : Result :=
  .next (branch bvcCond (modeRel rel s))

/-- BVS REL, opcode 0x70 (R228). -/
def execBvs (rel : Byte) (s : State) : Result :=
  .next (branch bvsCond (modeRel rel s))

/-- JMP ABS, opcode 0x4C (R229). -/
def execJmpAbs (addr : Word) (s : State) : Result :=
  .next (jmpOp (modeAbs addr s))

/-- JMP IND, opcode 0x6C (R230). -/
def execJmpInd (ptr : Word) (s : State) : Result :=
  .next (jmpOp (modeInd ptr s))

/-- JSR ABS, opcode 0x20 (R231). -/
def execJsr (addr : Word) (s : State) : Result :=
  .next (jsrOp (modeAbs addr s))

/-- RTS IMP, opcode 0x60 (R232). -/
def execRts (s : State) : Result :=
  .next (rtsOp (modeImp s))

end Sys2Proof.Machine
end

