-- ==== Sys2Proof/Machine/LoadStore.lean ====
section
/-!
DEFINITION. Loads, stores and register transfers (41_load_store_transfer.md R160 to R171).
-/

namespace Sys2Proof.Machine

/-- LDA's effect: `A <- v; set_zn(v)` (R160). -/
def ldaEffect (v : Byte) (s : State) : State := (s.setA v).setZn v

/-- LDX's effect (R161). -/
def ldxEffect (v : Byte) (s : State) : State := (s.setX v).setZn v

/-- LDY's effect (R162). -/
def ldyEffect (v : Byte) (s : State) : State := (s.setY v).setZn v

/-- The byte STA stores (R163). -/
def staValue (s : State) : Byte := s.a

/-- The byte STX stores (R164). -/
def stxValue (s : State) : Byte := s.x

/-- The byte STY stores (R165). -/
def styValue (s : State) : Byte := s.y

/-- TAX (R166). -/
def taxOp (s : State) : State := (s.setX s.a).setZn s.a

/-- TAY (R167). -/
def tayOp (s : State) : State := (s.setY s.a).setZn s.a

/-- TXA (R168). -/
def txaOp (s : State) : State := (s.setA s.x).setZn s.x

/-- TYA (R169). -/
def tyaOp (s : State) : State := (s.setA s.y).setZn s.y

/-- TSX (R170). -/
def tsxOp (s : State) : State := (s.setX s.sp).setZn s.sp

/-- TXS, the only transfer that changes no flag (R171). -/
def txsOp (s : State) : State := s.setSp s.x

/-! ## The instructions -/

/-- LDA IDX, opcode 0xA1 (R160). -/
def execLdaIdx (zp : Byte) (s : State) : Result :=
  .next (readOp ldaEffect (modeIdx zp s))

/-- LDA ZP0, opcode 0xA5 (R160). -/
def execLdaZp0 (zp : Byte) (s : State) : Result :=
  .next (readOp ldaEffect (modeZp0 zp s))

/-- LDA IMM, opcode 0xA9 (R160). -/
def execLdaImm (imm : Byte) (s : State) : Result :=
  .next (immOp ldaEffect (modeImm imm s))

/-- LDA ABS, opcode 0xAD (R160). -/
def execLdaAbs (addr : Word) (s : State) : Result :=
  .next (readOp ldaEffect (modeAbs addr s))

/-- LDA IDY, opcode 0xB1 (R160). -/
def execLdaIdy (zp : Byte) (s : State) : Result :=
  .next (readOp ldaEffect (modeIdy zp .read s))

/-- LDA ZPX, opcode 0xB5 (R160). -/
def execLdaZpx (zp : Byte) (s : State) : Result :=
  .next (readOp ldaEffect (modeZpx zp s))

/-- LDA ABY, opcode 0xB9 (R160). -/
def execLdaAby (addr : Word) (s : State) : Result :=
  .next (readOp ldaEffect (modeAby addr .read s))

/-- LDA ABX, opcode 0xBD (R160). -/
def execLdaAbx (addr : Word) (s : State) : Result :=
  .next (readOp ldaEffect (modeAbx addr .read s))

/-- LDX IMM, opcode 0xA2 (R161). -/
def execLdxImm (imm : Byte) (s : State) : Result :=
  .next (immOp ldxEffect (modeImm imm s))

/-- LDX ZP0, opcode 0xA6 (R161). -/
def execLdxZp0 (zp : Byte) (s : State) : Result :=
  .next (readOp ldxEffect (modeZp0 zp s))

/-- LDX ABS, opcode 0xAE (R161). -/
def execLdxAbs (addr : Word) (s : State) : Result :=
  .next (readOp ldxEffect (modeAbs addr s))

/-- LDX ZPY, opcode 0xB6 (R161). -/
def execLdxZpy (zp : Byte) (s : State) : Result :=
  .next (readOp ldxEffect (modeZpy zp s))

/-- LDX ABY, opcode 0xBE (R161). -/
def execLdxAby (addr : Word) (s : State) : Result :=
  .next (readOp ldxEffect (modeAby addr .read s))

/-- LDY IMM, opcode 0xA0 (R162). -/
def execLdyImm (imm : Byte) (s : State) : Result :=
  .next (immOp ldyEffect (modeImm imm s))

/-- LDY ZP0, opcode 0xA4 (R162). -/
def execLdyZp0 (zp : Byte) (s : State) : Result :=
  .next (readOp ldyEffect (modeZp0 zp s))

/-- LDY ABS, opcode 0xAC (R162). -/
def execLdyAbs (addr : Word) (s : State) : Result :=
  .next (readOp ldyEffect (modeAbs addr s))

/-- LDY ZPX, opcode 0xB4 (R162). -/
def execLdyZpx (zp : Byte) (s : State) : Result :=
  .next (readOp ldyEffect (modeZpx zp s))

/-- LDY ABX, opcode 0xBC (R162). -/
def execLdyAbx (addr : Word) (s : State) : Result :=
  .next (readOp ldyEffect (modeAbx addr .read s))

/-- STA IDX, opcode 0x81 (R163). -/
def execStaIdx (zp : Byte) (s : State) : Result :=
  .next (storeOp staValue (modeIdx zp s))

/-- STA ZP0, opcode 0x85 (R163). -/
def execStaZp0 (zp : Byte) (s : State) : Result :=
  .next (storeOp staValue (modeZp0 zp s))

/-- STA ABS, opcode 0x8D (R163). -/
def execStaAbs (addr : Word) (s : State) : Result :=
  .next (storeOp staValue (modeAbs addr s))

/-- STA IDY, opcode 0x91 (R163). -/
def execStaIdy (zp : Byte) (s : State) : Result :=
  .next (storeOp staValue (modeIdy zp .store s))

/-- STA ZPX, opcode 0x95 (R163). -/
def execStaZpx (zp : Byte) (s : State) : Result :=
  .next (storeOp staValue (modeZpx zp s))

/-- STA ABY, opcode 0x99 (R163). -/
def execStaAby (addr : Word) (s : State) : Result :=
  .next (storeOp staValue (modeAby addr .store s))

/-- STA ABX, opcode 0x9D (R163). -/
def execStaAbx (addr : Word) (s : State) : Result :=
  .next (storeOp staValue (modeAbx addr .store s))

/-- STX ZP0, opcode 0x86 (R164). -/
def execStxZp0 (zp : Byte) (s : State) : Result :=
  .next (storeOp stxValue (modeZp0 zp s))

/-- STX ABS, opcode 0x8E (R164). -/
def execStxAbs (addr : Word) (s : State) : Result :=
  .next (storeOp stxValue (modeAbs addr s))

/-- STX ZPY, opcode 0x96 (R164). -/
def execStxZpy (zp : Byte) (s : State) : Result :=
  .next (storeOp stxValue (modeZpy zp s))

/-- STY ZP0, opcode 0x84 (R165). -/
def execStyZp0 (zp : Byte) (s : State) : Result :=
  .next (storeOp styValue (modeZp0 zp s))

/-- STY ABS, opcode 0x8C (R165). -/
def execStyAbs (addr : Word) (s : State) : Result :=
  .next (storeOp styValue (modeAbs addr s))

/-- STY ZPX, opcode 0x94 (R165). -/
def execStyZpx (zp : Byte) (s : State) : Result :=
  .next (storeOp styValue (modeZpx zp s))

/-- TAX IMP, opcode 0xAA (R166). -/
def execTax (s : State) : Result :=
  .next (taxOp (modeImp s))

/-- TAY IMP, opcode 0xA8 (R167). -/
def execTay (s : State) : Result :=
  .next (tayOp (modeImp s))

/-- TXA IMP, opcode 0x8A (R168). -/
def execTxa (s : State) : Result :=
  .next (txaOp (modeImp s))

/-- TYA IMP, opcode 0x98 (R169). -/
def execTya (s : State) : Result :=
  .next (tyaOp (modeImp s))

/-- TSX IMP, opcode 0xBA (R170). -/
def execTsx (s : State) : Result :=
  .next (tsxOp (modeImp s))

/-- TXS IMP, opcode 0x9A (R171). -/
def execTxs (s : State) : Result :=
  .next (txsOp (modeImp s))

end Sys2Proof.Machine
end

