-- ==== Sys2Proof/Machine/Shift.lean ====
section
/-!
DEFINITION. Shifts and rotates (43_shift_rotate.md R210 to R214).
-/

namespace Sys2Proof.Machine

/-- A shift of `v` with its flags (R214): C the bit shifted out, Z and N of the result. -/
def shiftFn (bits : Byte → Flags → Byte × Flags) (v : Byte) (s : State) : Byte × State :=
  let r := withZn (bits v s.p)
  (r.1, s.setP r.2)

/-- ASL's `f` (R210). -/
def aslFn (v : Byte) (s : State) : Byte × State := shiftFn aslBits v s

/-- LSR's `f` (R211). -/
def lsrFn (v : Byte) (s : State) : Byte × State := shiftFn lsrBits v s

/-- ROL's `f` (R212). -/
def rolFn (v : Byte) (s : State) : Byte × State := shiftFn rolBits v s

/-- ROR's `f` (R213). -/
def rorFn (v : Byte) (s : State) : Byte × State := shiftFn rorBits v s

/-! ## The instructions -/

/-- ASL ZP0, opcode 0x06 (R210). -/
def execAslZp0 (zp : Byte) (s : State) : Result :=
  .next (rmwOp aslFn (modeZp0 zp s))

/-- ASL ACC, opcode 0x0A (R210). -/
def execAslAcc (s : State) : Result :=
  .next (accOp aslFn (modeAcc s))

/-- ASL ABS, opcode 0x0E (R210). -/
def execAslAbs (addr : Word) (s : State) : Result :=
  .next (rmwOp aslFn (modeAbs addr s))

/-- ASL ZPX, opcode 0x16 (R210). -/
def execAslZpx (zp : Byte) (s : State) : Result :=
  .next (rmwOp aslFn (modeZpx zp s))

/-- ASL ABX, opcode 0x1E (R210). -/
def execAslAbx (addr : Word) (s : State) : Result :=
  .next (rmwOp aslFn (modeAbx addr .rmw s))

/-- LSR ZP0, opcode 0x46 (R211). -/
def execLsrZp0 (zp : Byte) (s : State) : Result :=
  .next (rmwOp lsrFn (modeZp0 zp s))

/-- LSR ACC, opcode 0x4A (R211). -/
def execLsrAcc (s : State) : Result :=
  .next (accOp lsrFn (modeAcc s))

/-- LSR ABS, opcode 0x4E (R211). -/
def execLsrAbs (addr : Word) (s : State) : Result :=
  .next (rmwOp lsrFn (modeAbs addr s))

/-- LSR ZPX, opcode 0x56 (R211). -/
def execLsrZpx (zp : Byte) (s : State) : Result :=
  .next (rmwOp lsrFn (modeZpx zp s))

/-- LSR ABX, opcode 0x5E (R211). -/
def execLsrAbx (addr : Word) (s : State) : Result :=
  .next (rmwOp lsrFn (modeAbx addr .rmw s))

/-- ROL ZP0, opcode 0x26 (R212). -/
def execRolZp0 (zp : Byte) (s : State) : Result :=
  .next (rmwOp rolFn (modeZp0 zp s))

/-- ROL ACC, opcode 0x2A (R212). -/
def execRolAcc (s : State) : Result :=
  .next (accOp rolFn (modeAcc s))

/-- ROL ABS, opcode 0x2E (R212). -/
def execRolAbs (addr : Word) (s : State) : Result :=
  .next (rmwOp rolFn (modeAbs addr s))

/-- ROL ZPX, opcode 0x36 (R212). -/
def execRolZpx (zp : Byte) (s : State) : Result :=
  .next (rmwOp rolFn (modeZpx zp s))

/-- ROL ABX, opcode 0x3E (R212). -/
def execRolAbx (addr : Word) (s : State) : Result :=
  .next (rmwOp rolFn (modeAbx addr .rmw s))

/-- ROR ZP0, opcode 0x66 (R213). -/
def execRorZp0 (zp : Byte) (s : State) : Result :=
  .next (rmwOp rorFn (modeZp0 zp s))

/-- ROR ACC, opcode 0x6A (R213). -/
def execRorAcc (s : State) : Result :=
  .next (accOp rorFn (modeAcc s))

/-- ROR ABS, opcode 0x6E (R213). -/
def execRorAbs (addr : Word) (s : State) : Result :=
  .next (rmwOp rorFn (modeAbs addr s))

/-- ROR ZPX, opcode 0x76 (R213). -/
def execRorZpx (zp : Byte) (s : State) : Result :=
  .next (rmwOp rorFn (modeZpx zp s))

/-- ROR ABX, opcode 0x7E (R213). -/
def execRorAbx (addr : Word) (s : State) : Result :=
  .next (rmwOp rorFn (modeAbx addr .rmw s))

end Sys2Proof.Machine
end

