-- ==== Sys2Proof/Machine/System.lean ====
section
/-!
DEFINITION. Stack, flag, no-operation and system instructions (45_stack_flags_system.md R240 to R253).
-/

namespace Sys2Proof.Machine

/-- PHA (R240). -/
def phaOp (s : State) : State := push s.a s

/-- PHP (R241): bits 4 and 5 of the pushed byte are 1. -/
def phpOp (s : State) : State := push (s.p.pushByte true) s

/-- PLA (R242). -/
def plaOp (s : State) : State :=
  let r := pull (dummyStackRead s)
  (r.2.setA r.1).setZn r.1

/-- PLP (R243): the flags change after the last cycle. -/
def plpOp (s : State) : State :=
  let r := pull (dummyStackRead s)
  r.2.setP (.ofByte r.1)

/-- CLC (R244). -/
def clcOp (s : State) : State := s.setP { s.p with c := false }

/-- SEC (R245). -/
def secOp (s : State) : State := s.setP { s.p with c := true }

/-- CLI (R246). -/
def cliOp (s : State) : State := s.setP { s.p with i := false }

/-- SEI (R247). -/
def seiOp (s : State) : State := s.setP { s.p with i := true }

/-- CLD (R248). -/
def cldOp (s : State) : State := s.setP { s.p with d := false }

/-- SED (R249). -/
def sedOp (s : State) : State := s.setP { s.p with d := true }

/-- CLV (R250). -/
def clvOp (s : State) : State := s.setP { s.p with v := false }

/-- NOP (R251): the mode's dummy read is all it does. -/
def nopOp (s : State) : State := s

/-- BRK (R252). Its padding byte has been fetched (cycle 2) and `PC` is past it; the shared sequence
runs with B set, and `prev_nmi` is cleared so that the handler's first instruction runs
(60_exceptions.md R323). -/
def brkOp (s : State) : State :=
  let s1 := takeException true s
  s1.setBus { s1.bus with prevNmi := false }

/-- RTI (R253). -/
def rtiOp (s : State) : State := returnFromException (dummyStackRead s)

/-! ## The instructions -/

/-- PHA IMP, opcode 0x48 (R240). -/
def execPha (s : State) : Result :=
  .next (phaOp (modeImp s))

/-- PHP IMP, opcode 0x08 (R241). -/
def execPhp (s : State) : Result :=
  .next (phpOp (modeImp s))

/-- PLA IMP, opcode 0x68 (R242). -/
def execPla (s : State) : Result :=
  .next (plaOp (modeImp s))

/-- PLP IMP, opcode 0x28 (R243). -/
def execPlp (s : State) : Result :=
  .next (plpOp (modeImp s))

/-- CLC IMP, opcode 0x18 (R244). -/
def execClc (s : State) : Result :=
  .next (clcOp (modeImp s))

/-- SEC IMP, opcode 0x38 (R245). -/
def execSec (s : State) : Result :=
  .next (secOp (modeImp s))

/-- CLI IMP, opcode 0x58 (R246). -/
def execCli (s : State) : Result :=
  .next (cliOp (modeImp s))

/-- SEI IMP, opcode 0x78 (R247). -/
def execSei (s : State) : Result :=
  .next (seiOp (modeImp s))

/-- CLD IMP, opcode 0xD8 (R248). -/
def execCld (s : State) : Result :=
  .next (cldOp (modeImp s))

/-- SED IMP, opcode 0xF8 (R249). -/
def execSed (s : State) : Result :=
  .next (sedOp (modeImp s))

/-- CLV IMP, opcode 0xB8 (R250). -/
def execClv (s : State) : Result :=
  .next (clvOp (modeImp s))

/-- NOP IMP, opcode 0xEA (R251). -/
def execNop (s : State) : Result :=
  .next (nopOp (modeImp s))

/-- BRK IMM, opcode 0x00 (R252). -/
def execBrk (pad : Byte) (s : State) : Result :=
  .next (brkOp (modeImm pad s))

/-- RTI IMP, opcode 0x40 (R253). -/
def execRti (s : State) : Result :=
  .next (rtiOp (modeImp s))

end Sys2Proof.Machine
end

