-- ==== Sys2Proof/Machine/Unofficial.lean ====
section
/-!
DEFINITION. The unofficial opcodes and the jam opcodes (46_unofficial.md R270 to R299).
-/

namespace Sys2Proof.Machine

/-! ## Read-modify-write combinations (R271 to R276)

The second operation works on the register file between the two writes (R270 a). -/

/-- SLO: ASL, then ORA (R271). -/
def sloFn (v : Byte) (s : State) : Byte × State :=
  let r := aslBits v s.p
  let a := s.a ||| r.1
  (r.1, (s.setA a).setP (r.2.setZn a))

/-- RLA: ROL, then AND (R272). -/
def rlaFn (v : Byte) (s : State) : Byte × State :=
  let r := rolBits v s.p
  let a := s.a &&& r.1
  (r.1, (s.setA a).setP (r.2.setZn a))

/-- SRE: LSR, then EOR (R273). -/
def sreFn (v : Byte) (s : State) : Byte × State :=
  let r := lsrBits v s.p
  let a := s.a ^^^ r.1
  (r.1, (s.setA a).setP (r.2.setZn a))

/-- RRA: ROR, then ADC with the carry the rotate produced (R274). -/
def rraFn (v : Byte) (s : State) : Byte × State :=
  let r := rorBits v s.p
  let q := adcFlags s.a r.1 r.2
  (r.1, (s.setA q.1).setP q.2)

/-- DCP: DEC, then CMP (R275). -/
def dcpFn (v : Byte) (s : State) : Byte × State := (v - 1, s.setP (s.p.compare s.a (v - 1)))

/-- ISB: INC, then SBC (R276). -/
def isbFn (v : Byte) (s : State) : Byte × State :=
  let q := sbcFlags s.a (v + 1) s.p
  (v + 1, (s.setA q.1).setP q.2)

/-! ## Loads and stores of two registers (R277 to R279) -/

/-- LAX (R277). -/
def laxEffect (v : Byte) (s : State) : State := ((s.setA v).setX v).setZn v

/-- LAX immediate, LXA (R278), with the parameter `LXA_MAGIC` (log entry 8). -/
def lxaEffect (v : Byte) (s : State) : State :=
  let r := (s.a ||| s.params.lxaMagic) &&& v
  ((s.setA r).setX r).setZn r

/-- The byte SAX stores (R279). -/
def saxValue (s : State) : Byte := s.a &&& s.x

/-! ## Immediate combinations (R280 to R284) -/

/-- ANC (R280). -/
def ancEffect (v : Byte) (s : State) : State := (s.setA (s.a &&& v)).setP (s.p.anc (s.a &&& v))

/-- ALR: AND, then LSR (R281). -/
def alrEffect (v : Byte) (s : State) : State :=
  let r := withZn (lsrBits (s.a &&& v) s.p)
  (s.setA r.1).setP r.2

/-- ARR: AND, then ROR with its own C and V (R282). -/
def arrEffect (v : Byte) (s : State) : State :=
  let r := arrBits (s.a &&& v) s.p
  (s.setA r.1).setP r.2

/-- AXS: `X <- (A & X) - v` with the carry of a compare (R283). -/
def axsEffect (v : Byte) (s : State) : State :=
  let t := s.a &&& s.x
  (s.setX (t - v)).setP (s.p.compare t v)

/-- XAA (R284), with the parameter `XAA_MAGIC` (log entry 8). -/
def xaaEffect (v : Byte) (s : State) : State :=
  let r := (s.a ||| s.params.xaaMagic) &&& s.x &&& v
  (s.setA r).setZn r

/-- LAS (R285). -/
def lasEffect (m : Byte) (s : State) : State :=
  let v := m &&& s.sp
  (((s.setA v).setX v).setSp v).setZn v

/-! ## Unstable stores (R286 to R290, log entry 15) -/

/-- The byte an unstable store writes: the register and the high byte of the base plus one. -/
def unstableValue (r : Byte) (s : State) : Byte := r &&& (hi s.latches.base + 1)

/-- Where it goes: the effective address, whose high byte the value replaces when a page is crossed. -/
def unstableAddr (r : Byte) (s : State) : Word :=
  if s.latches.pageCrossed then mk16 (unstableValue r s) (lo s.latches.absAddr)
  else s.latches.absAddr

/-- `UnstableStore(r)` (R286). -/
def unstableStore (r : Byte) (s : State) : State :=
  memWrite (unstableAddr r s) (unstableValue r s) s

/-- AHX (R287). -/
def ahxOp (s : State) : State := unstableStore (s.a &&& s.x) s

/-- TAS (R288): `SP <- A & X`, then the store. -/
def tasOp (s : State) : State := unstableStore (s.a &&& s.x) (s.setSp (s.a &&& s.x))

/-- SHX (R289). -/
def shxOp (s : State) : State := unstableStore s.x s

/-- SHY (R290). -/
def shyOp (s : State) : State := unstableStore s.y s

/-! ## Unofficial NOPs and the jam opcodes -/

/-- The unofficial NOPs with an operand read it and drop it (R292 to R296). -/
def nopEffect (_ : Byte) (s : State) : State := s

/-- XXX (R299): `corrupted <- 1`; nothing is pushed and no vector is read. -/
def xxxOp (s : State) : State := { s with corrupted := true }

/-! ## The instructions -/

/-- SLO IDX, opcode 0x03 (R271). -/
def execSloIdx (zp : Byte) (s : State) : Result :=
  .next (rmwOp sloFn (modeIdx zp s))

/-- SLO ZP0, opcode 0x07 (R271). -/
def execSloZp0 (zp : Byte) (s : State) : Result :=
  .next (rmwOp sloFn (modeZp0 zp s))

/-- SLO ABS, opcode 0x0F (R271). -/
def execSloAbs (addr : Word) (s : State) : Result :=
  .next (rmwOp sloFn (modeAbs addr s))

/-- SLO IDY, opcode 0x13 (R271). -/
def execSloIdy (zp : Byte) (s : State) : Result :=
  .next (rmwOp sloFn (modeIdy zp .rmw s))

/-- SLO ZPX, opcode 0x17 (R271). -/
def execSloZpx (zp : Byte) (s : State) : Result :=
  .next (rmwOp sloFn (modeZpx zp s))

/-- SLO ABY, opcode 0x1B (R271). -/
def execSloAby (addr : Word) (s : State) : Result :=
  .next (rmwOp sloFn (modeAby addr .rmw s))

/-- SLO ABX, opcode 0x1F (R271). -/
def execSloAbx (addr : Word) (s : State) : Result :=
  .next (rmwOp sloFn (modeAbx addr .rmw s))

/-- RLA IDX, opcode 0x23 (R272). -/
def execRlaIdx (zp : Byte) (s : State) : Result :=
  .next (rmwOp rlaFn (modeIdx zp s))

/-- RLA ZP0, opcode 0x27 (R272). -/
def execRlaZp0 (zp : Byte) (s : State) : Result :=
  .next (rmwOp rlaFn (modeZp0 zp s))

/-- RLA ABS, opcode 0x2F (R272). -/
def execRlaAbs (addr : Word) (s : State) : Result :=
  .next (rmwOp rlaFn (modeAbs addr s))

/-- RLA IDY, opcode 0x33 (R272). -/
def execRlaIdy (zp : Byte) (s : State) : Result :=
  .next (rmwOp rlaFn (modeIdy zp .rmw s))

/-- RLA ZPX, opcode 0x37 (R272). -/
def execRlaZpx (zp : Byte) (s : State) : Result :=
  .next (rmwOp rlaFn (modeZpx zp s))

/-- RLA ABY, opcode 0x3B (R272). -/
def execRlaAby (addr : Word) (s : State) : Result :=
  .next (rmwOp rlaFn (modeAby addr .rmw s))

/-- RLA ABX, opcode 0x3F (R272). -/
def execRlaAbx (addr : Word) (s : State) : Result :=
  .next (rmwOp rlaFn (modeAbx addr .rmw s))

/-- SRE IDX, opcode 0x43 (R273). -/
def execSreIdx (zp : Byte) (s : State) : Result :=
  .next (rmwOp sreFn (modeIdx zp s))

/-- SRE ZP0, opcode 0x47 (R273). -/
def execSreZp0 (zp : Byte) (s : State) : Result :=
  .next (rmwOp sreFn (modeZp0 zp s))

/-- SRE ABS, opcode 0x4F (R273). -/
def execSreAbs (addr : Word) (s : State) : Result :=
  .next (rmwOp sreFn (modeAbs addr s))

/-- SRE IDY, opcode 0x53 (R273). -/
def execSreIdy (zp : Byte) (s : State) : Result :=
  .next (rmwOp sreFn (modeIdy zp .rmw s))

/-- SRE ZPX, opcode 0x57 (R273). -/
def execSreZpx (zp : Byte) (s : State) : Result :=
  .next (rmwOp sreFn (modeZpx zp s))

/-- SRE ABY, opcode 0x5B (R273). -/
def execSreAby (addr : Word) (s : State) : Result :=
  .next (rmwOp sreFn (modeAby addr .rmw s))

/-- SRE ABX, opcode 0x5F (R273). -/
def execSreAbx (addr : Word) (s : State) : Result :=
  .next (rmwOp sreFn (modeAbx addr .rmw s))

/-- RRA IDX, opcode 0x63 (R274). -/
def execRraIdx (zp : Byte) (s : State) : Result :=
  .next (rmwOp rraFn (modeIdx zp s))

/-- RRA ZP0, opcode 0x67 (R274). -/
def execRraZp0 (zp : Byte) (s : State) : Result :=
  .next (rmwOp rraFn (modeZp0 zp s))

/-- RRA ABS, opcode 0x6F (R274). -/
def execRraAbs (addr : Word) (s : State) : Result :=
  .next (rmwOp rraFn (modeAbs addr s))

/-- RRA IDY, opcode 0x73 (R274). -/
def execRraIdy (zp : Byte) (s : State) : Result :=
  .next (rmwOp rraFn (modeIdy zp .rmw s))

/-- RRA ZPX, opcode 0x77 (R274). -/
def execRraZpx (zp : Byte) (s : State) : Result :=
  .next (rmwOp rraFn (modeZpx zp s))

/-- RRA ABY, opcode 0x7B (R274). -/
def execRraAby (addr : Word) (s : State) : Result :=
  .next (rmwOp rraFn (modeAby addr .rmw s))

/-- RRA ABX, opcode 0x7F (R274). -/
def execRraAbx (addr : Word) (s : State) : Result :=
  .next (rmwOp rraFn (modeAbx addr .rmw s))

/-- DCP IDX, opcode 0xC3 (R275). -/
def execDcpIdx (zp : Byte) (s : State) : Result :=
  .next (rmwOp dcpFn (modeIdx zp s))

/-- DCP ZP0, opcode 0xC7 (R275). -/
def execDcpZp0 (zp : Byte) (s : State) : Result :=
  .next (rmwOp dcpFn (modeZp0 zp s))

/-- DCP ABS, opcode 0xCF (R275). -/
def execDcpAbs (addr : Word) (s : State) : Result :=
  .next (rmwOp dcpFn (modeAbs addr s))

/-- DCP IDY, opcode 0xD3 (R275). -/
def execDcpIdy (zp : Byte) (s : State) : Result :=
  .next (rmwOp dcpFn (modeIdy zp .rmw s))

/-- DCP ZPX, opcode 0xD7 (R275). -/
def execDcpZpx (zp : Byte) (s : State) : Result :=
  .next (rmwOp dcpFn (modeZpx zp s))

/-- DCP ABY, opcode 0xDB (R275). -/
def execDcpAby (addr : Word) (s : State) : Result :=
  .next (rmwOp dcpFn (modeAby addr .rmw s))

/-- DCP ABX, opcode 0xDF (R275). -/
def execDcpAbx (addr : Word) (s : State) : Result :=
  .next (rmwOp dcpFn (modeAbx addr .rmw s))

/-- ISB IDX, opcode 0xE3 (R276). -/
def execIsbIdx (zp : Byte) (s : State) : Result :=
  .next (rmwOp isbFn (modeIdx zp s))

/-- ISB ZP0, opcode 0xE7 (R276). -/
def execIsbZp0 (zp : Byte) (s : State) : Result :=
  .next (rmwOp isbFn (modeZp0 zp s))

/-- ISB ABS, opcode 0xEF (R276). -/
def execIsbAbs (addr : Word) (s : State) : Result :=
  .next (rmwOp isbFn (modeAbs addr s))

/-- ISB IDY, opcode 0xF3 (R276). -/
def execIsbIdy (zp : Byte) (s : State) : Result :=
  .next (rmwOp isbFn (modeIdy zp .rmw s))

/-- ISB ZPX, opcode 0xF7 (R276). -/
def execIsbZpx (zp : Byte) (s : State) : Result :=
  .next (rmwOp isbFn (modeZpx zp s))

/-- ISB ABY, opcode 0xFB (R276). -/
def execIsbAby (addr : Word) (s : State) : Result :=
  .next (rmwOp isbFn (modeAby addr .rmw s))

/-- ISB ABX, opcode 0xFF (R276). -/
def execIsbAbx (addr : Word) (s : State) : Result :=
  .next (rmwOp isbFn (modeAbx addr .rmw s))

/-- LAX IDX, opcode 0xA3 (R277). -/
def execLaxIdx (zp : Byte) (s : State) : Result :=
  .next (readOp laxEffect (modeIdx zp s))

/-- LAX ZP0, opcode 0xA7 (R277). -/
def execLaxZp0 (zp : Byte) (s : State) : Result :=
  .next (readOp laxEffect (modeZp0 zp s))

/-- LAX IMM, opcode 0xAB (R278). -/
def execLaxImm (imm : Byte) (s : State) : Result :=
  .next (immOp lxaEffect (modeImm imm s))

/-- LAX ABS, opcode 0xAF (R277). -/
def execLaxAbs (addr : Word) (s : State) : Result :=
  .next (readOp laxEffect (modeAbs addr s))

/-- LAX IDY, opcode 0xB3 (R277). -/
def execLaxIdy (zp : Byte) (s : State) : Result :=
  .next (readOp laxEffect (modeIdy zp .read s))

/-- LAX ZPY, opcode 0xB7 (R277). -/
def execLaxZpy (zp : Byte) (s : State) : Result :=
  .next (readOp laxEffect (modeZpy zp s))

/-- LAX ABY, opcode 0xBF (R277). -/
def execLaxAby (addr : Word) (s : State) : Result :=
  .next (readOp laxEffect (modeAby addr .read s))

/-- SAX IDX, opcode 0x83 (R279). -/
def execSaxIdx (zp : Byte) (s : State) : Result :=
  .next (storeOp saxValue (modeIdx zp s))

/-- SAX ZP0, opcode 0x87 (R279). -/
def execSaxZp0 (zp : Byte) (s : State) : Result :=
  .next (storeOp saxValue (modeZp0 zp s))

/-- SAX ABS, opcode 0x8F (R279). -/
def execSaxAbs (addr : Word) (s : State) : Result :=
  .next (storeOp saxValue (modeAbs addr s))

/-- SAX ZPY, opcode 0x97 (R279). -/
def execSaxZpy (zp : Byte) (s : State) : Result :=
  .next (storeOp saxValue (modeZpy zp s))

/-- ANC IMM, opcode 0x0B (R280). -/
def execAncImm_0B (imm : Byte) (s : State) : Result :=
  .next (immOp ancEffect (modeImm imm s))

/-- ANC IMM, opcode 0x2B (R280). -/
def execAncImm_2B (imm : Byte) (s : State) : Result :=
  .next (immOp ancEffect (modeImm imm s))

/-- ALR IMM, opcode 0x4B (R281). -/
def execAlrImm (imm : Byte) (s : State) : Result :=
  .next (immOp alrEffect (modeImm imm s))

/-- ARR IMM, opcode 0x6B (R282). -/
def execArrImm (imm : Byte) (s : State) : Result :=
  .next (immOp arrEffect (modeImm imm s))

/-- AXS IMM, opcode 0xCB (R283). -/
def execAxsImm (imm : Byte) (s : State) : Result :=
  .next (immOp axsEffect (modeImm imm s))

/-- XAA IMM, opcode 0x8B (R284). -/
def execXaaImm (imm : Byte) (s : State) : Result :=
  .next (immOp xaaEffect (modeImm imm s))

/-- LAS ABY, opcode 0xBB (R285). -/
def execLasAby (addr : Word) (s : State) : Result :=
  .next (readOp lasEffect (modeAby addr .read s))

/-- AHX IDY, opcode 0x93 (R287). -/
def execAhxIdy (zp : Byte) (s : State) : Result :=
  .next (ahxOp (modeIdy zp .store s))

/-- AHX ABY, opcode 0x9F (R287). -/
def execAhxAby (addr : Word) (s : State) : Result :=
  .next (ahxOp (modeAby addr .store s))

/-- TAS ABY, opcode 0x9B (R288). -/
def execTasAby (addr : Word) (s : State) : Result :=
  .next (tasOp (modeAby addr .store s))

/-- SHX ABY, opcode 0x9E (R289). -/
def execShxAby (addr : Word) (s : State) : Result :=
  .next (shxOp (modeAby addr .store s))

/-- SHY ABX, opcode 0x9C (R290). -/
def execShyAbx (addr : Word) (s : State) : Result :=
  .next (shyOp (modeAbx addr .store s))

/-- NOP ZP0, opcode 0x04 (R293). -/
def execNopZp0_04 (zp : Byte) (s : State) : Result :=
  .next (readOp nopEffect (modeZp0 zp s))

/-- NOP ABS, opcode 0x0C (R295). -/
def execNopAbs (addr : Word) (s : State) : Result :=
  .next (readOp nopEffect (modeAbs addr s))

/-- NOP ZPX, opcode 0x14 (R294). -/
def execNopZpx_14 (zp : Byte) (s : State) : Result :=
  .next (readOp nopEffect (modeZpx zp s))

/-- NOP IMP, opcode 0x1A (R291). -/
def execNopImp_1A (s : State) : Result :=
  .next (nopOp (modeImp s))

/-- NOP ABX, opcode 0x1C (R296). -/
def execNopAbx_1C (addr : Word) (s : State) : Result :=
  .next (readOp nopEffect (modeAbx addr .read s))

/-- NOP ZPX, opcode 0x34 (R294). -/
def execNopZpx_34 (zp : Byte) (s : State) : Result :=
  .next (readOp nopEffect (modeZpx zp s))

/-- NOP IMP, opcode 0x3A (R291). -/
def execNopImp_3A (s : State) : Result :=
  .next (nopOp (modeImp s))

/-- NOP ABX, opcode 0x3C (R296). -/
def execNopAbx_3C (addr : Word) (s : State) : Result :=
  .next (readOp nopEffect (modeAbx addr .read s))

/-- NOP ZP0, opcode 0x44 (R293). -/
def execNopZp0_44 (zp : Byte) (s : State) : Result :=
  .next (readOp nopEffect (modeZp0 zp s))

/-- NOP ZPX, opcode 0x54 (R294). -/
def execNopZpx_54 (zp : Byte) (s : State) : Result :=
  .next (readOp nopEffect (modeZpx zp s))

/-- NOP IMP, opcode 0x5A (R291). -/
def execNopImp_5A (s : State) : Result :=
  .next (nopOp (modeImp s))

/-- NOP ABX, opcode 0x5C (R296). -/
def execNopAbx_5C (addr : Word) (s : State) : Result :=
  .next (readOp nopEffect (modeAbx addr .read s))

/-- NOP ZP0, opcode 0x64 (R293). -/
def execNopZp0_64 (zp : Byte) (s : State) : Result :=
  .next (readOp nopEffect (modeZp0 zp s))

/-- NOP ZPX, opcode 0x74 (R294). -/
def execNopZpx_74 (zp : Byte) (s : State) : Result :=
  .next (readOp nopEffect (modeZpx zp s))

/-- NOP IMP, opcode 0x7A (R291). -/
def execNopImp_7A (s : State) : Result :=
  .next (nopOp (modeImp s))

/-- NOP ABX, opcode 0x7C (R296). -/
def execNopAbx_7C (addr : Word) (s : State) : Result :=
  .next (readOp nopEffect (modeAbx addr .read s))

/-- NOP IMM, opcode 0x80 (R292). -/
def execNopImm_80 (imm : Byte) (s : State) : Result :=
  .next (immOp nopEffect (modeImm imm s))

/-- NOP IMM, opcode 0x82 (R292). -/
def execNopImm_82 (imm : Byte) (s : State) : Result :=
  .next (immOp nopEffect (modeImm imm s))

/-- NOP IMM, opcode 0x89 (R292). -/
def execNopImm_89 (imm : Byte) (s : State) : Result :=
  .next (immOp nopEffect (modeImm imm s))

/-- NOP IMM, opcode 0xC2 (R292). -/
def execNopImm_C2 (imm : Byte) (s : State) : Result :=
  .next (immOp nopEffect (modeImm imm s))

/-- NOP ZPX, opcode 0xD4 (R294). -/
def execNopZpx_D4 (zp : Byte) (s : State) : Result :=
  .next (readOp nopEffect (modeZpx zp s))

/-- NOP IMP, opcode 0xDA (R291). -/
def execNopImp_DA (s : State) : Result :=
  .next (nopOp (modeImp s))

/-- NOP ABX, opcode 0xDC (R296). -/
def execNopAbx_DC (addr : Word) (s : State) : Result :=
  .next (readOp nopEffect (modeAbx addr .read s))

/-- NOP IMM, opcode 0xE2 (R292). -/
def execNopImm_E2 (imm : Byte) (s : State) : Result :=
  .next (immOp nopEffect (modeImm imm s))

/-- NOP ZPX, opcode 0xF4 (R294). -/
def execNopZpx_F4 (zp : Byte) (s : State) : Result :=
  .next (readOp nopEffect (modeZpx zp s))

/-- NOP IMP, opcode 0xFA (R291). -/
def execNopImp_FA (s : State) : Result :=
  .next (nopOp (modeImp s))

/-- NOP ABX, opcode 0xFC (R296). -/
def execNopAbx_FC (addr : Word) (s : State) : Result :=
  .next (readOp nopEffect (modeAbx addr .read s))

/-- SBC IMM, opcode 0xEB (R297). -/
def execSbcImm_EB (imm : Byte) (s : State) : Result :=
  .next (immOp sbcEffect (modeImm imm s))

/-- XXX IMP, opcode 0x02 (R299). -/
def execXxx_02 (s : State) : Result :=
  .next (xxxOp (modeImp s))

/-- XXX IMP, opcode 0x12 (R299). -/
def execXxx_12 (s : State) : Result :=
  .next (xxxOp (modeImp s))

/-- XXX IMP, opcode 0x22 (R299). -/
def execXxx_22 (s : State) : Result :=
  .next (xxxOp (modeImp s))

/-- XXX IMP, opcode 0x32 (R299). -/
def execXxx_32 (s : State) : Result :=
  .next (xxxOp (modeImp s))

/-- XXX IMP, opcode 0x42 (R299). -/
def execXxx_42 (s : State) : Result :=
  .next (xxxOp (modeImp s))

/-- XXX IMP, opcode 0x52 (R299). -/
def execXxx_52 (s : State) : Result :=
  .next (xxxOp (modeImp s))

/-- XXX IMP, opcode 0x62 (R299). -/
def execXxx_62 (s : State) : Result :=
  .next (xxxOp (modeImp s))

/-- XXX IMP, opcode 0x72 (R299). -/
def execXxx_72 (s : State) : Result :=
  .next (xxxOp (modeImp s))

/-- XXX IMP, opcode 0x92 (R299). -/
def execXxx_92 (s : State) : Result :=
  .next (xxxOp (modeImp s))

/-- XXX IMP, opcode 0xB2 (R299). -/
def execXxx_B2 (s : State) : Result :=
  .next (xxxOp (modeImp s))

/-- XXX IMP, opcode 0xD2 (R299). -/
def execXxx_D2 (s : State) : Result :=
  .next (xxxOp (modeImp s))

/-- XXX IMP, opcode 0xF2 (R299). -/
def execXxx_F2 (s : State) : Result :=
  .next (xxxOp (modeImp s))

end Sys2Proof.Machine
end

