-- ==== Sys2Proof/Machine/Dispatch.lean ====
section
/-! DEFINITION. One arm per instruction, each one call of its meaning. `exec` runs an instruction
whose bytes have been fetched: `PC` is past them and their read cycles are done. -/

namespace Sys2Proof.Machine

def exec (i : Instr) (s : State) : Host.Outcome State Fault Refusal :=
  match i with
  | .brk pad => Sys2Proof.Machine.execBrk pad s
  | .oraIdx zp => Sys2Proof.Machine.execOraIdx zp s
  | .sloIdx zp => Sys2Proof.Machine.execSloIdx zp s
  | .nopZp0_04 zp => Sys2Proof.Machine.execNopZp0_04 zp s
  | .oraZp0 zp => Sys2Proof.Machine.execOraZp0 zp s
  | .aslZp0 zp => Sys2Proof.Machine.execAslZp0 zp s
  | .sloZp0 zp => Sys2Proof.Machine.execSloZp0 zp s
  | .oraImm imm => Sys2Proof.Machine.execOraImm imm s
  | .ancImm_0B imm => Sys2Proof.Machine.execAncImm_0B imm s
  | .nopAbs addr => Sys2Proof.Machine.execNopAbs addr s
  | .oraAbs addr => Sys2Proof.Machine.execOraAbs addr s
  | .aslAbs addr => Sys2Proof.Machine.execAslAbs addr s
  | .sloAbs addr => Sys2Proof.Machine.execSloAbs addr s
  | .bpl rel => Sys2Proof.Machine.execBpl rel s
  | .oraIdy zp => Sys2Proof.Machine.execOraIdy zp s
  | .sloIdy zp => Sys2Proof.Machine.execSloIdy zp s
  | .nopZpx_14 zp => Sys2Proof.Machine.execNopZpx_14 zp s
  | .oraZpx zp => Sys2Proof.Machine.execOraZpx zp s
  | .aslZpx zp => Sys2Proof.Machine.execAslZpx zp s
  | .sloZpx zp => Sys2Proof.Machine.execSloZpx zp s
  | .oraAby addr => Sys2Proof.Machine.execOraAby addr s
  | .sloAby addr => Sys2Proof.Machine.execSloAby addr s
  | .nopAbx_1C addr => Sys2Proof.Machine.execNopAbx_1C addr s
  | .oraAbx addr => Sys2Proof.Machine.execOraAbx addr s
  | .aslAbx addr => Sys2Proof.Machine.execAslAbx addr s
  | .sloAbx addr => Sys2Proof.Machine.execSloAbx addr s
  | .jsr addr => Sys2Proof.Machine.execJsr addr s
  | .andIdx zp => Sys2Proof.Machine.execAndIdx zp s
  | .rlaIdx zp => Sys2Proof.Machine.execRlaIdx zp s
  | .bitZp0 zp => Sys2Proof.Machine.execBitZp0 zp s
  | .andZp0 zp => Sys2Proof.Machine.execAndZp0 zp s
  | .rolZp0 zp => Sys2Proof.Machine.execRolZp0 zp s
  | .rlaZp0 zp => Sys2Proof.Machine.execRlaZp0 zp s
  | .andImm imm => Sys2Proof.Machine.execAndImm imm s
  | .ancImm_2B imm => Sys2Proof.Machine.execAncImm_2B imm s
  | .bitAbs addr => Sys2Proof.Machine.execBitAbs addr s
  | .andAbs addr => Sys2Proof.Machine.execAndAbs addr s
  | .rolAbs addr => Sys2Proof.Machine.execRolAbs addr s
  | .rlaAbs addr => Sys2Proof.Machine.execRlaAbs addr s
  | .bmi rel => Sys2Proof.Machine.execBmi rel s
  | .andIdy zp => Sys2Proof.Machine.execAndIdy zp s
  | .rlaIdy zp => Sys2Proof.Machine.execRlaIdy zp s
  | .nopZpx_34 zp => Sys2Proof.Machine.execNopZpx_34 zp s
  | .andZpx zp => Sys2Proof.Machine.execAndZpx zp s
  | .rolZpx zp => Sys2Proof.Machine.execRolZpx zp s
  | .rlaZpx zp => Sys2Proof.Machine.execRlaZpx zp s
  | .andAby addr => Sys2Proof.Machine.execAndAby addr s
  | .rlaAby addr => Sys2Proof.Machine.execRlaAby addr s
  | .nopAbx_3C addr => Sys2Proof.Machine.execNopAbx_3C addr s
  | .andAbx addr => Sys2Proof.Machine.execAndAbx addr s
  | .rolAbx addr => Sys2Proof.Machine.execRolAbx addr s
  | .rlaAbx addr => Sys2Proof.Machine.execRlaAbx addr s
  | .eorIdx zp => Sys2Proof.Machine.execEorIdx zp s
  | .sreIdx zp => Sys2Proof.Machine.execSreIdx zp s
  | .nopZp0_44 zp => Sys2Proof.Machine.execNopZp0_44 zp s
  | .eorZp0 zp => Sys2Proof.Machine.execEorZp0 zp s
  | .lsrZp0 zp => Sys2Proof.Machine.execLsrZp0 zp s
  | .sreZp0 zp => Sys2Proof.Machine.execSreZp0 zp s
  | .eorImm imm => Sys2Proof.Machine.execEorImm imm s
  | .alrImm imm => Sys2Proof.Machine.execAlrImm imm s
  | .jmpAbs addr => Sys2Proof.Machine.execJmpAbs addr s
  | .eorAbs addr => Sys2Proof.Machine.execEorAbs addr s
  | .lsrAbs addr => Sys2Proof.Machine.execLsrAbs addr s
  | .sreAbs addr => Sys2Proof.Machine.execSreAbs addr s
  | .bvc rel => Sys2Proof.Machine.execBvc rel s
  | .eorIdy zp => Sys2Proof.Machine.execEorIdy zp s
  | .sreIdy zp => Sys2Proof.Machine.execSreIdy zp s
  | .nopZpx_54 zp => Sys2Proof.Machine.execNopZpx_54 zp s
  | .eorZpx zp => Sys2Proof.Machine.execEorZpx zp s
  | .lsrZpx zp => Sys2Proof.Machine.execLsrZpx zp s
  | .sreZpx zp => Sys2Proof.Machine.execSreZpx zp s
  | .eorAby addr => Sys2Proof.Machine.execEorAby addr s
  | .sreAby addr => Sys2Proof.Machine.execSreAby addr s
  | .nopAbx_5C addr => Sys2Proof.Machine.execNopAbx_5C addr s
  | .eorAbx addr => Sys2Proof.Machine.execEorAbx addr s
  | .lsrAbx addr => Sys2Proof.Machine.execLsrAbx addr s
  | .sreAbx addr => Sys2Proof.Machine.execSreAbx addr s
  | .adcIdx zp => Sys2Proof.Machine.execAdcIdx zp s
  | .rraIdx zp => Sys2Proof.Machine.execRraIdx zp s
  | .nopZp0_64 zp => Sys2Proof.Machine.execNopZp0_64 zp s
  | .adcZp0 zp => Sys2Proof.Machine.execAdcZp0 zp s
  | .rorZp0 zp => Sys2Proof.Machine.execRorZp0 zp s
  | .rraZp0 zp => Sys2Proof.Machine.execRraZp0 zp s
  | .adcImm imm => Sys2Proof.Machine.execAdcImm imm s
  | .arrImm imm => Sys2Proof.Machine.execArrImm imm s
  | .jmpInd ptr => Sys2Proof.Machine.execJmpInd ptr s
  | .adcAbs addr => Sys2Proof.Machine.execAdcAbs addr s
  | .rorAbs addr => Sys2Proof.Machine.execRorAbs addr s
  | .rraAbs addr => Sys2Proof.Machine.execRraAbs addr s
  | .bvs rel => Sys2Proof.Machine.execBvs rel s
  | .adcIdy zp => Sys2Proof.Machine.execAdcIdy zp s
  | .rraIdy zp => Sys2Proof.Machine.execRraIdy zp s
  | .nopZpx_74 zp => Sys2Proof.Machine.execNopZpx_74 zp s
  | .adcZpx zp => Sys2Proof.Machine.execAdcZpx zp s
  | .rorZpx zp => Sys2Proof.Machine.execRorZpx zp s
  | .rraZpx zp => Sys2Proof.Machine.execRraZpx zp s
  | .adcAby addr => Sys2Proof.Machine.execAdcAby addr s
  | .rraAby addr => Sys2Proof.Machine.execRraAby addr s
  | .nopAbx_7C addr => Sys2Proof.Machine.execNopAbx_7C addr s
  | .adcAbx addr => Sys2Proof.Machine.execAdcAbx addr s
  | .rorAbx addr => Sys2Proof.Machine.execRorAbx addr s
  | .rraAbx addr => Sys2Proof.Machine.execRraAbx addr s
  | .nopImm_80 imm => Sys2Proof.Machine.execNopImm_80 imm s
  | .staIdx zp => Sys2Proof.Machine.execStaIdx zp s
  | .nopImm_82 imm => Sys2Proof.Machine.execNopImm_82 imm s
  | .saxIdx zp => Sys2Proof.Machine.execSaxIdx zp s
  | .styZp0 zp => Sys2Proof.Machine.execStyZp0 zp s
  | .staZp0 zp => Sys2Proof.Machine.execStaZp0 zp s
  | .stxZp0 zp => Sys2Proof.Machine.execStxZp0 zp s
  | .saxZp0 zp => Sys2Proof.Machine.execSaxZp0 zp s
  | .nopImm_89 imm => Sys2Proof.Machine.execNopImm_89 imm s
  | .xaaImm imm => Sys2Proof.Machine.execXaaImm imm s
  | .styAbs addr => Sys2Proof.Machine.execStyAbs addr s
  | .staAbs addr => Sys2Proof.Machine.execStaAbs addr s
  | .stxAbs addr => Sys2Proof.Machine.execStxAbs addr s
  | .saxAbs addr => Sys2Proof.Machine.execSaxAbs addr s
  | .bcc rel => Sys2Proof.Machine.execBcc rel s
  | .staIdy zp => Sys2Proof.Machine.execStaIdy zp s
  | .ahxIdy zp => Sys2Proof.Machine.execAhxIdy zp s
  | .styZpx zp => Sys2Proof.Machine.execStyZpx zp s
  | .staZpx zp => Sys2Proof.Machine.execStaZpx zp s
  | .stxZpy zp => Sys2Proof.Machine.execStxZpy zp s
  | .saxZpy zp => Sys2Proof.Machine.execSaxZpy zp s
  | .staAby addr => Sys2Proof.Machine.execStaAby addr s
  | .tasAby addr => Sys2Proof.Machine.execTasAby addr s
  | .shyAbx addr => Sys2Proof.Machine.execShyAbx addr s
  | .staAbx addr => Sys2Proof.Machine.execStaAbx addr s
  | .shxAby addr => Sys2Proof.Machine.execShxAby addr s
  | .ahxAby addr => Sys2Proof.Machine.execAhxAby addr s
  | .ldyImm imm => Sys2Proof.Machine.execLdyImm imm s
  | .ldaIdx zp => Sys2Proof.Machine.execLdaIdx zp s
  | .ldxImm imm => Sys2Proof.Machine.execLdxImm imm s
  | .laxIdx zp => Sys2Proof.Machine.execLaxIdx zp s
  | .ldyZp0 zp => Sys2Proof.Machine.execLdyZp0 zp s
  | .ldaZp0 zp => Sys2Proof.Machine.execLdaZp0 zp s
  | .ldxZp0 zp => Sys2Proof.Machine.execLdxZp0 zp s
  | .laxZp0 zp => Sys2Proof.Machine.execLaxZp0 zp s
  | .ldaImm imm => Sys2Proof.Machine.execLdaImm imm s
  | .laxImm imm => Sys2Proof.Machine.execLaxImm imm s
  | .ldyAbs addr => Sys2Proof.Machine.execLdyAbs addr s
  | .ldaAbs addr => Sys2Proof.Machine.execLdaAbs addr s
  | .ldxAbs addr => Sys2Proof.Machine.execLdxAbs addr s
  | .laxAbs addr => Sys2Proof.Machine.execLaxAbs addr s
  | .bcs rel => Sys2Proof.Machine.execBcs rel s
  | .ldaIdy zp => Sys2Proof.Machine.execLdaIdy zp s
  | .laxIdy zp => Sys2Proof.Machine.execLaxIdy zp s
  | .ldyZpx zp => Sys2Proof.Machine.execLdyZpx zp s
  | .ldaZpx zp => Sys2Proof.Machine.execLdaZpx zp s
  | .ldxZpy zp => Sys2Proof.Machine.execLdxZpy zp s
  | .laxZpy zp => Sys2Proof.Machine.execLaxZpy zp s
  | .ldaAby addr => Sys2Proof.Machine.execLdaAby addr s
  | .lasAby addr => Sys2Proof.Machine.execLasAby addr s
  | .ldyAbx addr => Sys2Proof.Machine.execLdyAbx addr s
  | .ldaAbx addr => Sys2Proof.Machine.execLdaAbx addr s
  | .ldxAby addr => Sys2Proof.Machine.execLdxAby addr s
  | .laxAby addr => Sys2Proof.Machine.execLaxAby addr s
  | .cpyImm imm => Sys2Proof.Machine.execCpyImm imm s
  | .cmpIdx zp => Sys2Proof.Machine.execCmpIdx zp s
  | .nopImm_C2 imm => Sys2Proof.Machine.execNopImm_C2 imm s
  | .dcpIdx zp => Sys2Proof.Machine.execDcpIdx zp s
  | .cpyZp0 zp => Sys2Proof.Machine.execCpyZp0 zp s
  | .cmpZp0 zp => Sys2Proof.Machine.execCmpZp0 zp s
  | .decZp0 zp => Sys2Proof.Machine.execDecZp0 zp s
  | .dcpZp0 zp => Sys2Proof.Machine.execDcpZp0 zp s
  | .cmpImm imm => Sys2Proof.Machine.execCmpImm imm s
  | .axsImm imm => Sys2Proof.Machine.execAxsImm imm s
  | .cpyAbs addr => Sys2Proof.Machine.execCpyAbs addr s
  | .cmpAbs addr => Sys2Proof.Machine.execCmpAbs addr s
  | .decAbs addr => Sys2Proof.Machine.execDecAbs addr s
  | .dcpAbs addr => Sys2Proof.Machine.execDcpAbs addr s
  | .bne rel => Sys2Proof.Machine.execBne rel s
  | .cmpIdy zp => Sys2Proof.Machine.execCmpIdy zp s
  | .dcpIdy zp => Sys2Proof.Machine.execDcpIdy zp s
  | .nopZpx_D4 zp => Sys2Proof.Machine.execNopZpx_D4 zp s
  | .cmpZpx zp => Sys2Proof.Machine.execCmpZpx zp s
  | .decZpx zp => Sys2Proof.Machine.execDecZpx zp s
  | .dcpZpx zp => Sys2Proof.Machine.execDcpZpx zp s
  | .cmpAby addr => Sys2Proof.Machine.execCmpAby addr s
  | .dcpAby addr => Sys2Proof.Machine.execDcpAby addr s
  | .nopAbx_DC addr => Sys2Proof.Machine.execNopAbx_DC addr s
  | .cmpAbx addr => Sys2Proof.Machine.execCmpAbx addr s
  | .decAbx addr => Sys2Proof.Machine.execDecAbx addr s
  | .dcpAbx addr => Sys2Proof.Machine.execDcpAbx addr s
  | .cpxImm imm => Sys2Proof.Machine.execCpxImm imm s
  | .sbcIdx zp => Sys2Proof.Machine.execSbcIdx zp s
  | .nopImm_E2 imm => Sys2Proof.Machine.execNopImm_E2 imm s
  | .isbIdx zp => Sys2Proof.Machine.execIsbIdx zp s
  | .cpxZp0 zp => Sys2Proof.Machine.execCpxZp0 zp s
  | .sbcZp0 zp => Sys2Proof.Machine.execSbcZp0 zp s
  | .incZp0 zp => Sys2Proof.Machine.execIncZp0 zp s
  | .isbZp0 zp => Sys2Proof.Machine.execIsbZp0 zp s
  | .sbcImm imm => Sys2Proof.Machine.execSbcImm imm s
  | .sbcImm_EB imm => Sys2Proof.Machine.execSbcImm_EB imm s
  | .cpxAbs addr => Sys2Proof.Machine.execCpxAbs addr s
  | .sbcAbs addr => Sys2Proof.Machine.execSbcAbs addr s
  | .incAbs addr => Sys2Proof.Machine.execIncAbs addr s
  | .isbAbs addr => Sys2Proof.Machine.execIsbAbs addr s
  | .beq rel => Sys2Proof.Machine.execBeq rel s
  | .sbcIdy zp => Sys2Proof.Machine.execSbcIdy zp s
  | .isbIdy zp => Sys2Proof.Machine.execIsbIdy zp s
  | .nopZpx_F4 zp => Sys2Proof.Machine.execNopZpx_F4 zp s
  | .sbcZpx zp => Sys2Proof.Machine.execSbcZpx zp s
  | .incZpx zp => Sys2Proof.Machine.execIncZpx zp s
  | .isbZpx zp => Sys2Proof.Machine.execIsbZpx zp s
  | .sbcAby addr => Sys2Proof.Machine.execSbcAby addr s
  | .isbAby addr => Sys2Proof.Machine.execIsbAby addr s
  | .nopAbx_FC addr => Sys2Proof.Machine.execNopAbx_FC addr s
  | .sbcAbx addr => Sys2Proof.Machine.execSbcAbx addr s
  | .incAbx addr => Sys2Proof.Machine.execIncAbx addr s
  | .isbAbx addr => Sys2Proof.Machine.execIsbAbx addr s
  | .xxx_02 => Sys2Proof.Machine.execXxx_02 s
  | .php => Sys2Proof.Machine.execPhp s
  | .aslAcc => Sys2Proof.Machine.execAslAcc s
  | .xxx_12 => Sys2Proof.Machine.execXxx_12 s
  | .clc => Sys2Proof.Machine.execClc s
  | .nopImp_1A => Sys2Proof.Machine.execNopImp_1A s
  | .xxx_22 => Sys2Proof.Machine.execXxx_22 s
  | .plp => Sys2Proof.Machine.execPlp s
  | .rolAcc => Sys2Proof.Machine.execRolAcc s
  | .xxx_32 => Sys2Proof.Machine.execXxx_32 s
  | .sec => Sys2Proof.Machine.execSec s
  | .nopImp_3A => Sys2Proof.Machine.execNopImp_3A s
  | .rti => Sys2Proof.Machine.execRti s
  | .xxx_42 => Sys2Proof.Machine.execXxx_42 s
  | .pha => Sys2Proof.Machine.execPha s
  | .lsrAcc => Sys2Proof.Machine.execLsrAcc s
  | .xxx_52 => Sys2Proof.Machine.execXxx_52 s
  | .cli => Sys2Proof.Machine.execCli s
  | .nopImp_5A => Sys2Proof.Machine.execNopImp_5A s
  | .rts => Sys2Proof.Machine.execRts s
  | .xxx_62 => Sys2Proof.Machine.execXxx_62 s
  | .pla => Sys2Proof.Machine.execPla s
  | .rorAcc => Sys2Proof.Machine.execRorAcc s
  | .xxx_72 => Sys2Proof.Machine.execXxx_72 s
  | .sei => Sys2Proof.Machine.execSei s
  | .nopImp_7A => Sys2Proof.Machine.execNopImp_7A s
  | .dey => Sys2Proof.Machine.execDey s
  | .txa => Sys2Proof.Machine.execTxa s
  | .xxx_92 => Sys2Proof.Machine.execXxx_92 s
  | .tya => Sys2Proof.Machine.execTya s
  | .txs => Sys2Proof.Machine.execTxs s
  | .tay => Sys2Proof.Machine.execTay s
  | .tax => Sys2Proof.Machine.execTax s
  | .xxx_B2 => Sys2Proof.Machine.execXxx_B2 s
  | .clv => Sys2Proof.Machine.execClv s
  | .tsx => Sys2Proof.Machine.execTsx s
  | .iny => Sys2Proof.Machine.execIny s
  | .dex => Sys2Proof.Machine.execDex s
  | .xxx_D2 => Sys2Proof.Machine.execXxx_D2 s
  | .cld => Sys2Proof.Machine.execCld s
  | .nopImp_DA => Sys2Proof.Machine.execNopImp_DA s
  | .inx => Sys2Proof.Machine.execInx s
  | .nop => Sys2Proof.Machine.execNop s
  | .xxx_F2 => Sys2Proof.Machine.execXxx_F2 s
  | .sed => Sys2Proof.Machine.execSed s
  | .nopImp_FA => Sys2Proof.Machine.execNopImp_FA s

end Sys2Proof.Machine
end

