-- ==== Sys2Proof/Machine/Step.lean ====
section
/-!
DEFINITION. One step of the machine: a pending reset, or one instruction with the interrupt that
follows it (40_addressing_modes.md R130, 70_reset_and_hazards.md R390); and how an instruction is
placed for the next step.
-/

namespace Sys2Proof.Machine

/-- `Step` (40_addressing_modes.md R130). A reset the host has asked for comes first
(60_exceptions.md R327); a jammed machine has no transition (R329); else the instruction's bytes are
fetched, it runs, and the instruction-end check follows in the same step (R314). -/
def step (s : State) : Host.Outcome State Fault Refusal :=
  match s.resetReq with
  | some k => .next (applyReset k s)
  | none =>
    if s.jammed then .fault .jammed
    else
      let f := fetchInstr s
      match exec f.1 f.2 with
      | .next t => .next (instructionEnd t)
      | .fault r => .fault r
      | .refused r => .refused r

/-- The state `s` with an instruction stored where the next step fetches: its three bytes (the ones
above `nbits` zero) at `PC`, `PC + 1` and `PC + 2`. What would keep the next step from fetching them
is taken away: a pending reset, the jam, a pending DMA, and what the environment's inputs would drive
onto the bus or change in the cartridge; cartridge space is plain memory (log entry 21). -/
def State.withFetchWord (s : State) (nbits w : Nat) : State :=
  { s with
    corrupted := false
    resetReq := none
    bus := { s.bus with
      oamDma := false
      dmcDma := false
      halt := false
      windows := flatCartridge
      inputs := s.bus.inputs.map fun inp => { inp with data := none, windows := none }
      mem := pokeBytes (tableWordBytes nbits w) s.pc s.bus.mem } }

end Sys2Proof.Machine
end

