-- ==== Sys2Proof/Safety.lean ====
section
/-!
DEFINITION. The words the statements are made of: what a read must yield, when no DMA and no
environment interferes, where an instruction's operand lies and which bus cycles it makes, written
from the spec's tables and not from the machine's own routines; and what a safe run is: a run in
which no step stops. An instruction never stops (60_exceptions.md R311); the one stop is a jammed
machine (R329).
-/

namespace Sys2Proof.Machine

/-! ## Stops -/

/-- The machine can take a step. -/
def Safe (s : State) : Prop := ∃ t, step s = .next t

/-- A run of `n` steps that never stops. -/
def SafeFor : Nat → State → Prop
  | 0, _ => True
  | n + 1, s => ∃ t, step s = .next t ∧ SafeFor n t

/-! ## What surrounds an instruction -/

/-- No DMA is pending, and none is requested in the cycles to come. -/
def NoDma (s : State) : Prop :=
  s.bus.dmaPending = false ∧ ∀ inp ∈ s.bus.inputs, inp.dmcReq = none

/-- The environment drives no data onto the bus and leaves the cartridge's windows alone, so that
cartridge space answers from the bytes it shows. -/
def CartPlain (s : State) : Prop :=
  ∀ inp ∈ s.bus.inputs, inp.data = none ∧ inp.windows = none

/-- No NMI is pending, and none can come: the VBlank flag is clear and the PPU changes nothing. -/
def NmiQuiet (s : State) : Prop :=
  s.bus.nmi = false ∧ s.bus.ppu.vblank = false ∧ ∀ inp ∈ s.bus.inputs, inp.ppu = none

/-- Some IRQ source is asserted now and in all the cycles to come. -/
def IrqHeld (s : State) : Prop :=
  anyIrq s.bus.irqLines = true ∧ ∀ inp ∈ s.bus.inputs, anyIrq inp.irqLines = true

/-- The byte of internal RAM at an address below 0x2000 (20_memory.md R63). -/
def State.ram (s : State) (addr : Word) : Byte := Memory.byteAt s.bus.mem (addr.toNat % 0x800)

/-- The byte memory shows at an address: the RAM byte, or the byte of the cartridge. -/
def State.shown (s : State) (addr : Word) : Byte :=
  if addr.toNat < 0x2000 then s.ram addr else Memory.byteAt s.bus.mem addr.toNat

/-- A read of `addr` is answered by memory: by internal RAM, or by a cartridge window that lets it be
read while the environment is plain (20_memory.md R63, R67, R83). -/
def Readable (s : State) (addr : Word) : Prop :=
  addr.toNat < 0x2000 ∨
  (0x4020 ≤ addr.toNat ∧ CartPlain s ∧ windowAccess s.bus.windows addr.toNat ≠ .none)

/-- `v` is a byte a read of `addr` may yield: the byte memory shows, where memory answers; elsewhere any
byte will do (20_memory.md R64 to R66, R77). -/
def MustRead (s : State) (addr : Word) (v : Byte) : Prop := Readable s addr → v = s.shown addr

/-- The bytes `bs` lie in memory from `addr` on, where reads are answered by memory. -/
def BytesAt (s : State) : Word → List Byte → Prop
  | _, [] => True
  | addr, b :: bs => Readable s addr ∧ s.shown addr = b ∧ BytesAt s (addr + 1) bs

/-- Memory after one byte was stored at `addr`: that byte reads as `v`, every other one as before.
Nothing is stored where no memory answers, or a cartridge window does not let it be written. -/
def StoredAt (addr : Word) (v : Byte) (windows : List CartWindow) (m m' : Memory) : Prop :=
  ∀ k, Memory.byteAt m' k =
    if memKey addr = some k ∧ (addr.toNat < 0x2000 ∨ windowAccess windows addr.toNat = .readWrite)
    then v else Memory.byteAt m k

/-- The key of the stack byte at a stack pointer (10_state.md R46). -/
def stackKey (sp : Byte) : Nat := 0x100 + sp.toNat

/-- What memory shows at a key after bytes are pushed from a stack pointer on, the first one first. -/
def pushedByte (m : Memory) : Byte → List Byte → Nat → Byte
  | _, [], k => Memory.byteAt m k
  | sp, v :: vs, k => if k = stackKey sp then v else pushedByte m (sp - 1) vs k

/-- Memory went from that of `s` to that of `t` by pushing the bytes `vs`; every other byte reads as
before (40_addressing_modes.md R149). -/
def Pushed (s t : State) (vs : List Byte) : Prop :=
  ∀ k, Memory.byteAt t.bus.mem k = pushedByte s.bus.mem s.sp vs k

/-! ## Where an operand lies (40_addressing_modes.md R132 to R144) -/

/-- The little-endian pointer in zero page at `z`, the second byte within page 0 (20_memory.md R88). -/
def State.zpPointer (s : State) (z : Byte) : Word :=
  mk16 (s.ram (zext16 (z + 1))) (s.ram (zext16 z))

/-- The operand byte of a two-byte instruction. -/
def operandByte (i : Instr) : Byte := lo i.operand

/-- The address an indexed mode adds its index to (R140, R141, R144). -/
def indexBase (i : Instr) (s : State) : Word :=
  match i.entry.mode with
  | .IDY => s.zpPointer (operandByte i)
  | _ => i.operand

/-- The effective address (R134 to R144); 0 for the modes that have none. For Indirect see
`indirectHigh`. -/
def effAddr (i : Instr) (s : State) : Word :=
  match i.entry.mode with
  | .IMM => s.pc - 1
  | .ZP0 => zext16 (operandByte i)
  | .ZPX => zext16 (operandByte i + s.x)
  | .ZPY => zext16 (operandByte i + s.y)
  | .ABS => i.operand
  | .ABX => i.operand + zext16 s.x
  | .ABY => i.operand + zext16 s.y
  | .IDX => s.zpPointer (operandByte i + s.x)
  | .IDY => s.zpPointer (operandByte i) + zext16 s.y
  | .IND => 0
  | .IMP => 0
  | .ACC => 0
  | .REL => 0

/-- Whether the index addition leaves the base's page (R145, R146). -/
def crossesPage (i : Instr) (s : State) : Bool :=
  match i.entry.mode with
  | .ABX => decide (hi (effAddr i s) ≠ hi (indexBase i s))
  | .ABY => decide (hi (effAddr i s) ≠ hi (indexBase i s))
  | .IDY => decide (hi (effAddr i s) ≠ hi (indexBase i s))
  | _ => false

/-- The address before the carry into the high byte, where an indexed mode's dummy read goes (R145). -/
def uncorrected (i : Instr) (s : State) : Word := mk16 (hi (indexBase i s)) (lo (effAddr i s))

/-- The second address of the indirect jump's pointer: the same page (R142, 20_memory.md R88). -/
def indirectHigh (p : Word) : Word := mk16 (hi p) (lo p + 1)

/-- The register an unstable store ANDs with the base's high byte plus one (46_unofficial.md R287 to
R290). -/
def unstableReg (o : Operation) (s : State) : Byte :=
  match o with
  | .SHX => s.x
  | .SHY => s.y
  | _ => s.a &&& s.x

/-- The byte an unstable store writes (46_unofficial.md R286). -/
def unstableByte (i : Instr) (s : State) : Byte :=
  unstableReg i.entry.operation s &&& (hi (indexBase i s) + 1)

/-- Whether an operation is one of the four unstable stores. -/
def isUnstable (o : Operation) : Bool :=
  decide (o = .AHX) || decide (o = .TAS) || decide (o = .SHX) || decide (o = .SHY)

/-- Where a store goes: the effective address, but for an unstable store that crosses a page, whose
high byte is the stored value (46_unofficial.md R286). -/
def storeAddr (i : Instr) (s : State) : Word :=
  if isUnstable i.entry.operation && crossesPage i s then mk16 (unstableByte i s) (lo (effAddr i s))
  else effAddr i s

/-- A read-kind instruction went from `s` to `t` with operand `v` and left memory alone. In Immediate
mode `v` is the byte that was fetched and no further cycle is made (R134); in a memory mode the last
bus cycle is the read of the effective address that yielded `v` (R147). -/
def ReadOperand (i : Instr) (s t : State) (v : Byte) : Prop :=
  t.bus.mem = s.bus.mem ∧
  if i.entry.mode = .IMM then v = operandByte i ∧ t.bus = s.bus
  else (∃ rest, t.bus.trace = .read (effAddr i s) v :: rest) ∧ MustRead s (effAddr i s) v

/-- A read-modify-write went from `s` to `t`: its last three bus cycles read `v` at the effective
address, write `v` back and write `r` (40_addressing_modes.md R148), and `r` is what memory holds
there afterwards, if it holds anything there that can be written. -/
def ModifiedOperand (i : Instr) (s t : State) (v r : Byte) : Prop :=
  (∃ rest, t.bus.trace =
    .write (effAddr i s) r :: .write (effAddr i s) v :: .read (effAddr i s) v :: rest) ∧
  MustRead s (effAddr i s) v ∧
  (CartPlain s ∨ (effAddr i s).toNat < 0x4020 →
    StoredAt (effAddr i s) r s.bus.windows s.bus.mem t.bus.mem) ∧
  ∀ k, memKey (effAddr i s) ≠ some k → Memory.byteAt t.bus.mem k = Memory.byteAt s.bus.mem k

/-- A store-kind instruction went from `s` to `t`, storing `v` at `addr`: the last bus cycle is that
write, memory holds `v` there afterwards where it can be written, and nothing else changed. -/
def StoredOperand (addr : Word) (s t : State) (v : Byte) : Prop :=
  (∃ rest, t.bus.trace = .write addr v :: rest) ∧
  (CartPlain s ∨ addr.toNat < 0x4020 → StoredAt addr v s.bus.windows s.bus.mem t.bus.mem) ∧
  ∀ k, memKey addr ≠ some k → Memory.byteAt t.bus.mem k = Memory.byteAt s.bus.mem k

/-! ## Results

Each of these says that `exec i s` ANSWERS A NEXT STATE `t`, and which: the state `r` but for its bus
and latches, of which the first clauses speak. So every register, flag, parameter and request that
`r` does not name is as in `s`. -/

/-- The instruction reads one operand byte `v`, and ends in `r v`. -/
def ReadsThen (i : Instr) (s : State) (r : Byte → State) : Prop :=
  ∃ v t, exec i s = .next t ∧ ReadOperand i s t v ∧
    t = { r v with latches := t.latches, bus := t.bus }

/-- The instruction stores `v` at `addr`, and ends in `r`. -/
def StoresThen (i : Instr) (s : State) (addr : Word) (v : Byte) (r : State) : Prop :=
  ∃ t, exec i s = .next t ∧ StoredOperand addr s t v ∧
    t = { r with latches := t.latches, bus := t.bus }

/-- The instruction reads a byte `v`, writes it back, writes `(r v).1`, and ends in `(r v).2`. -/
def ModifiesThen (i : Instr) (s : State) (r : Byte → Byte × State) : Prop :=
  ∃ v t, exec i s = .next t ∧ ModifiedOperand i s t v (r v).1 ∧
    t = { (r v).2 with latches := t.latches, bus := t.bus }

/-- The instruction stores nothing, and ends in `r`. -/
def RunsTo (i : Instr) (s r : State) : Prop :=
  ∃ t, exec i s = .next t ∧ t.bus.mem = s.bus.mem ∧
    t = { r with latches := t.latches, bus := t.bus }

/-- The instruction pushes the bytes `vs`, and ends in `r`. -/
def PushesThen (i : Instr) (s : State) (vs : List Byte) (r : State) : Prop :=
  ∃ t, exec i s = .next t ∧ Pushed s t vs ∧ t = { r with latches := t.latches, bus := t.bus }

/-- A vector was fetched last, low byte `l` first, then high byte `h` (60_exceptions.md R319). -/
def VectorFetched (s t : State) (vec : Word) (l h : Byte) : Prop :=
  (∃ rest, t.bus.trace = .read (vec + 1) h :: rest ∧ .read vec l ∈ rest) ∧
  MustRead s vec l ∧ MustRead s (vec + 1) h

/-! ## Arithmetic in the integers -/

/-- Whether an integer is outside the range of a signed byte. -/
def outOfSigned (n : Int) : Bool := decide (n < -128 ∨ 127 < n)

/-- The flags with C, V, Z and N from an arithmetic result. -/
def arithFlags (p : Flags) (c v : Bool) (r : Byte) : Flags :=
  { p with c := c, v := v, z := r == 0#8, n := r.msb }

/-- `a + v + c`: the result, C (carry out of the unsigned sum) and V (the signed sum does not fit)
(42_alu.md R180). -/
def addSpec (a v : Byte) (p : Flags) : Byte × Flags :=
  let r := BitVec.ofNat 8 (a.toNat + v.toNat + p.c.toNat)
  (r, arithFlags p (decide (256 ≤ a.toNat + v.toNat + p.c.toNat))
    (outOfSigned (a.toInt + v.toInt + p.c.toNat)) r)

/-- `a - v - (1 - c)`: the result, C (no borrow from the unsigned difference) and V (the signed
difference does not fit) (42_alu.md R181). -/
def subSpec (a v : Byte) (p : Flags) : Byte × Flags :=
  let r := BitVec.ofInt 8 ((a.toNat : Int) - v.toNat - (1 - p.c.toNat))
  (r, arithFlags p (decide (v.toNat + (1 - p.c.toNat) ≤ a.toNat))
    (outOfSigned (a.toInt - v.toInt - (1 - p.c.toNat))) r)

/-- The flags a comparison of `r` with `v` leaves (42_alu.md R196). -/
def compareSpec (r v : Byte) (p : Flags) : Flags :=
  { p with c := decide (v.toNat ≤ r.toNat), z := decide (r = v), n := (r - v).msb }

/-- The flags Z and N of a result (10_state.md R31). -/
def znSpec (r : Byte) (p : Flags) : Flags := { p with z := decide (r = 0#8), n := r.msb }

/-- The one-bit shifts as arithmetic: the result, and the flags with the bit shifted out as C
(43_shift_rotate.md R210 to R213). -/
def shiftSpec (o : Operation) (v : Byte) (p : Flags) : Byte × Flags :=
  match o with
  | .ASL => (BitVec.ofNat 8 (2 * v.toNat), { p with c := decide (128 ≤ v.toNat) })
  | .LSR => (BitVec.ofNat 8 (v.toNat / 2), { p with c := decide (v.toNat % 2 = 1) })
  | .ROL => (BitVec.ofNat 8 (2 * v.toNat + p.c.toNat), { p with c := decide (128 ≤ v.toNat) })
  | _ => (BitVec.ofNat 8 (v.toNat / 2 + 128 * p.c.toNat), { p with c := decide (v.toNat % 2 = 1) })

/-! ## Bus cycles (40_addressing_modes.md R150) -/

/-- A bus cycle without its data: whether it writes, and the address; nothing for an idle cycle. -/
def eventAccess : BusEvent → Option (Bool × Word)
  | .read a _ => some (false, a)
  | .write a _ => some (true, a)
  | .idle => none

/-- A read cycle of a plan. -/
def rd (a : Word) : Option (Bool × Word) := some (false, a)

/-- A write cycle of a plan. -/
def wr (a : Word) : Option (Bool × Word) := some (true, a)

/-- The dummy read of an indexed mode: always for the kinds store and rmw, else on a page crossing. -/
def indexPlan (i : Instr) (s : State) : List (Option (Bool × Word)) :=
  if crossesPage i s || decide (i.entry.kind = .store) || decide (i.entry.kind = .rmw) then
    [rd (uncorrected i s)]
  else []

/-- The cycles of the addressing mode after the instruction's bytes. -/
def modePlan (i : Instr) (s : State) : List (Option (Bool × Word)) :=
  match i.entry.mode with
  | .IMP => [rd s.pc]
  | .ACC => [rd s.pc]
  | .IMM => []
  | .ZP0 => []
  | .REL => []
  | .ABS => []
  | .ZPX => [rd (zext16 (operandByte i))]
  | .ZPY => [rd (zext16 (operandByte i))]
  | .ABX => indexPlan i s
  | .ABY => indexPlan i s
  | .IDX =>
    [rd (zext16 (operandByte i)), rd (zext16 (operandByte i + s.x)), rd (zext16 (operandByte i + s.x + 1))]
  | .IDY => [rd (zext16 (operandByte i)), rd (zext16 (operandByte i + 1))] ++ indexPlan i s
  | .IND => [rd i.operand, rd (indirectHigh i.operand)]

/-- Whether a branch is taken (44_branch_jump.md R221 to R228). -/
def branchTaken (o : Operation) (p : Flags) : Bool :=
  match o with
  | .BCC => !p.c
  | .BCS => p.c
  | .BEQ => p.z
  | .BNE => !p.z
  | .BMI => p.n
  | .BPL => !p.n
  | .BVC => !p.v
  | .BVS => p.v
  | _ => false

/-- A branch's target: the address after the branch plus the signed offset (R220). -/
def branchTarget (i : Instr) (s : State) : Word := s.pc + sext16 (operandByte i)

/-- The return address RTS pulls, one added (R232). -/
def rtsTarget (s : State) : Word :=
  mk16 (s.ram (stackAddr (s.sp + 2))) (s.ram (stackAddr (s.sp + 1))) + 1

/-- The cycles of the operation. `nmi` says which vector BRK takes. -/
def opPlan (nmi : Bool) (i : Instr) (s : State) : List (Option (Bool × Word)) :=
  match i.entry.kind with
  | .read => if i.entry.mode = .IMM then [] else [rd (effAddr i s)]
  | .store => [wr (storeAddr i s)]
  | .rmw => [rd (effAddr i s), wr (effAddr i s), wr (effAddr i s)]
  | .acc => []
  | .branch =>
    if branchTaken i.entry.operation s.p then
      if hi (branchTarget i s) ≠ hi s.pc then [rd s.pc, rd s.pc] else [rd s.pc]
    else []
  | .jump =>
    if i.entry.operation = .JSR then
      [rd (stackAddr s.sp), wr (stackAddr s.sp), wr (stackAddr (s.sp - 1))]
    else []
  | .brk =>
    [wr (stackAddr s.sp), wr (stackAddr (s.sp - 1)), wr (stackAddr (s.sp - 2)),
      rd (entryVector nmi), rd (entryVector nmi + 1)]
  | .implied =>
    match i.entry.operation with
    | .PHA => [wr (stackAddr s.sp)]
    | .PHP => [wr (stackAddr s.sp)]
    | .PLA => [rd (stackAddr s.sp), rd (stackAddr (s.sp + 1))]
    | .PLP => [rd (stackAddr s.sp), rd (stackAddr (s.sp + 1))]
    | .RTS =>
      [rd (stackAddr s.sp), rd (stackAddr (s.sp + 1)), rd (stackAddr (s.sp + 2)), rd (rtsTarget s)]
    | .RTI =>
      [rd (stackAddr s.sp), rd (stackAddr (s.sp + 1)), rd (stackAddr (s.sp + 2)),
        rd (stackAddr (s.sp + 3))]
    | _ => []

/-- The bus cycles of an instruction's fetch, first to last: a read of each of its bytes from `pc` on
(R131, R150). -/
def fetchPlan (i : Instr) (pc : Word) : List (Option (Bool × Word)) :=
  (List.range i.entry.bytes).map fun k => rd (pc + BitVec.ofNat 16 k)

/-- The bus cycles an instruction makes after the fetch of its bytes, first to last, when no DMA
interferes: the table of R150. -/
def busPlan (nmi : Bool) (i : Instr) (s : State) : List (Option (Bool × Word)) :=
  modePlan i s ++ opPlan nmi i s

/-- The cycles beyond the base count: one for a page crossing of a read-kind indexed mode, one for a
taken branch and one more for its page crossing (70_reset_and_hazards.md R413). -/
def extraCycles (i : Instr) (s : State) : Nat :=
  (if i.entry.kind = .read ∧ crossesPage i s = true then 1 else 0) +
  (if branchTaken i.entry.operation s.p = true then
    (if hi (branchTarget i s) ≠ hi s.pc then 2 else 1) else 0)

/-! ## DMA and the interrupt lines -/

/-- The cycles in which an OAM DMA copies bytes, first to last: byte `k` of the page is read, then
written to 0x2004 (60_exceptions.md R332). -/
def oamEvents (page : Byte) : Nat → List Byte → List BusEvent
  | _, [] => []
  | k, v :: vs =>
    .read (mk16 page (BitVec.ofNat 8 k)) v :: .write 0x2004#16 v :: oamEvents page (k + 1) vs

/-- The IRQ lines as the coming cycle's end will sample them. -/
def nextIrqLines (b : Bus) : IrqMask :=
  match b.inputs with
  | [] => b.irqLines
  | inp :: _ => inp.irqLines

/-- What one cycle's end does to the interrupt latches, with the I flag `i` (60_exceptions.md R313). -/
def Sampled (i : Bool) (b b' : Bus) : Prop :=
  b'.prevNmi = b.nmi ∧
  b'.nmi = (b.nmi || (b'.nmiLine && !b.nmiLinePrev)) ∧
  b'.nmiLinePrev = b'.nmiLine ∧
  b'.irq = b'.irqLines ∧
  b'.irqLines = nextIrqLines b ∧
  b'.prevRunIrq = b.runIrq ∧
  b'.runIrq = (anyIrq b'.irq && !i)

/-! ## Reset -/

/-- What both resets leave on the bus side (70_reset_and_hazards.md R390, R393), with the vector's bytes
`l` and `h` where cartridge windows can be read: seven cycles; the IRQ mask a copy of the lines and no
IRQ runnable; a pending NMI discarded, where the PPU's line is low and stays so; every DMA discarded,
where none is requested anew. -/
def ResetBus (s t : State) (l h : Byte) : Prop :=
  t.bus.cycle = 7 ∧ t.bus.irq = t.bus.irqLines ∧ t.bus.runIrq = false ∧ t.bus.prevRunIrq = false ∧
  (s.bus.nmiLine = false → (∀ inp ∈ s.bus.inputs, inp.ppu = none) →
    t.bus.nmi = false ∧ t.bus.prevNmi = false ∧ t.bus.nmiLinePrev = false) ∧
  t.bus.oamDma = false ∧
  ((∀ inp ∈ s.bus.inputs, inp.dmcReq = none) →
    t.bus.dmaPending = false ∧ t.bus.dummyRead = false) ∧
  (windowAccess s.bus.windows 0xFFFC ≠ .none → l = Memory.byteAt s.bus.mem 0xFFFC) ∧
  (windowAccess s.bus.windows 0xFFFD ≠ .none → h = Memory.byteAt s.bus.mem 0xFFFD)

/-! ## Invariant -/

/-- What holds at every instruction boundary: memory is in canonical form; `cycle` counts the bus
cycles since reset, so none was dropped (00_scope.md R9, 20_memory.md R76); the latches are copies of
the lines as the last cycle's end sampled them, and an IRQ is runnable only while a source asserts it
(60_exceptions.md R313). -/
def StateInv (s : State) : Prop :=
  Memory.wf s.bus.mem = true ∧
  s.bus.cycle = s.bus.trace.length ∧
  s.bus.irq = s.bus.irqLines ∧
  s.bus.nmiLinePrev = s.bus.nmiLine ∧
  (s.bus.runIrq = true → anyIrq s.bus.irq = true)

end Sys2Proof.Machine
end

