-- ==== Sys2Proof/Certificates/Slice0/Obligations.lean ====
section
/-!
DEFINITION. What is claimed of the machine. A statement that says `exec i s = .next t` for a `t` it
describes says that the instruction completes and what its result is; the words `ReadsThen`,
`StoresThen`, `ModifiesThen`, `RunsTo` and `PushesThen` of Safety.lean say so, with the frame: every
register, flag and parameter that the named end state does not change is as before, and every byte of
memory that is not stored to reads as before. Where a statement speaks of an instruction by its
operation it holds for every constructor with that operation, in every addressing mode, for every
operand and every state, DMA and interrupts included.
-/

open Sys2Proof Sys2Proof.Machine

/-! ## Encoding -/

/-- Decoding an encoded instruction gives it back, whatever bytes follow (30_encoding.md R100 to R102,
R107). -/
def Obligations.DecodeEncode : Prop :=
  ∀ (i : Instr) (rest : List Byte), i.WellFormed = true →
    decode (encode i ++ rest) = .ok (i, rest)

/-- Encoding a decoded instruction gives the bytes it was decoded from: no byte has two meanings
(30_encoding.md R100, R107). -/
def Obligations.EncodeDecode : Prop :=
  ∀ (bs rest : List Byte) (i : Instr), decode bs = .ok (i, rest) → encode i ++ rest = bs

/-- The decode table is total: every opcode byte with its operand bytes decodes, to the instruction of
its own entry, and takes exactly the entry's bytes (30_encoding.md R103, R106). -/
def Obligations.DecodeTotal : Prop :=
  ∀ (b b1 b2 : Byte) (rest : List Byte), ∃ i,
    i.opcode = b ∧ i.entry = table b ∧
    decode (b :: b1 :: b2 :: rest) = .ok (i, (b :: b1 :: b2 :: rest).drop (table b).bytes)

/-- Words written out from the opcode matrix, one of every family: load, store, transfer, arithmetic,
shift, branch, jump, stack, flag, system, unofficial, jam (30_encoding.md R104). -/
def Obligations.EncodingSamples : Prop :=
  decode [0xA9#8, 0x42#8] = .ok (.ldaImm 0x42#8, []) ∧
  decode [0x9D#8, 0x34#8, 0x12#8] = .ok (.staAbx 0x1234#16, []) ∧
  decode [0x9A#8] = .ok (.txs, []) ∧
  decode [0x71#8, 0x10#8] = .ok (.adcIdy 0x10#8, []) ∧
  decode [0x6A#8] = .ok (.rorAcc, []) ∧
  decode [0xD0#8, 0xFB#8] = .ok (.bne 0xFB#8, []) ∧
  decode [0x6C#8, 0xFF#8, 0x02#8] = .ok (.jmpInd 0x02FF#16, []) ∧
  decode [0x68#8] = .ok (.pla, []) ∧
  decode [0xF8#8] = .ok (.sed, []) ∧
  decode [0x00#8, 0xEA#8] = .ok (.brk 0xEA#8, []) ∧
  decode [0xDB#8, 0x00#8, 0x03#8] = .ok (.dcpAby 0x0300#16, []) ∧
  decode [0xB2#8] = .ok (.xxx_B2, [])

/-! ## The step -/

/-- A step runs the decoded instruction: the bytes are fetched, `exec` runs the instruction they are,
and the instruction-end check follows: the interrupt sequence if `prev_run_irq` or `prev_nmi` is
set (40_addressing_modes.md R130, 60_exceptions.md R314). -/
def Obligations.StepRunsDecoded : Prop :=
  ∀ s : State, s.resetReq = none → s.jammed = false →
    ∃ t, exec (fetchInstr s).1 (fetchInstr s).2 = .next t ∧
      step s = .next (if t.bus.prevRunIrq || t.bus.prevNmi then interrupt t else t)

/-- The bytes a step decodes are those memory holds at `PC`: an instruction whose encoding lies there
is fetched, `PC` moves past it, and registers, flags and memory are as before. It holds for
whatever was stored there last, so code that changes itself needs no barrier (10_state.md R21,
20_memory.md R82). -/
def Obligations.FetchReadsMemory : Prop :=
  ∀ (s : State) (i : Instr), BytesAt s s.pc (encode i) →
    (fetchInstr s).1 = i ∧
    ∃ l b, (fetchInstr s).2 = { s with pc := s.pc + BitVec.ofNat 16 i.entry.bytes,
                                        latches := l, bus := b } ∧
      b.mem = s.bus.mem

/-- No instruction can fault: every one of the 256 answers a next state, in every state. A step stops
only where no reset is asked for, `corrupted` is set and STEP_WHEN_CORRUPTED is `refuse`; everywhere
else it has a successor (60_exceptions.md R311, R329, 70_reset_and_hazards.md R396). -/
def Obligations.StopsOnlyWhenJammed : Prop :=
  (∀ (i : Instr) (s : State), ∃ t, exec i s = .next t) ∧
  ∀ s : State,
    (s.resetReq = none ∧ s.corrupted = true ∧ s.params.stepWhenCorrupted = .refuse →
      step s = .fault .jammed) ∧
    (¬ (s.resetReq = none ∧ s.corrupted = true ∧ s.params.stepWhenCorrupted = .refuse) → Safe s)

/-! ## Loads, stores, transfers (41_load_store_transfer.md) -/

/-- LDA, LDX, LDY and LAX in a memory mode: the operand goes to the register, or to A and X, and Z
and N follow it (R160 to R162, 46_unofficial.md R277). -/
def Obligations.LoadResults : Prop :=
  ∀ (i : Instr) (s : State),
    (i.entry.operation = .LDA → ReadsThen i s fun v => { s with a := v, p := znSpec v s.p }) ∧
    (i.entry.operation = .LDX → ReadsThen i s fun v => { s with x := v, p := znSpec v s.p }) ∧
    (i.entry.operation = .LDY → ReadsThen i s fun v => { s with y := v, p := znSpec v s.p }) ∧
    (i.entry.operation = .LAX → i.entry.mode ≠ .IMM →
      ReadsThen i s fun v => { s with a := v, x := v, p := znSpec v s.p })

/-- STA, STX, STY, SAX: one byte is stored at the effective address; no register and no flag changes
(R163 to R165, 46_unofficial.md R279). -/
def Obligations.StoreResults : Prop :=
  ∀ (i : Instr) (s : State),
    (i.entry.operation = .STA → StoresThen i s (effAddr i s) s.a s) ∧
    (i.entry.operation = .STX → StoresThen i s (effAddr i s) s.x s) ∧
    (i.entry.operation = .STY → StoresThen i s (effAddr i s) s.y s) ∧
    (i.entry.operation = .SAX → StoresThen i s (effAddr i s) (s.a &&& s.x) s)

/-- AHX, TAS, SHX, SHY: the register ANDed with the base's high byte plus one is stored, at the
effective address or, where the index crossed a page, at the address whose high byte is that value;
only TAS changes a register. Rests on log entry 15 (46_unofficial.md R286 to R290). -/
def Obligations.UnstableStoreResults : Prop :=
  ∀ (i : Instr) (s : State),
    (i.entry.operation = .AHX →
      StoresThen i s (storeAddr i s) (s.a &&& s.x &&& (hi (indexBase i s) + 1)) s) ∧
    (i.entry.operation = .TAS →
      StoresThen i s (storeAddr i s) (s.a &&& s.x &&& (hi (indexBase i s) + 1))
        { s with sp := s.a &&& s.x }) ∧
    (i.entry.operation = .SHX →
      StoresThen i s (storeAddr i s) (s.x &&& (hi (indexBase i s) + 1)) s) ∧
    (i.entry.operation = .SHY →
      StoresThen i s (storeAddr i s) (s.y &&& (hi (indexBase i s) + 1)) s)

/-- The six transfers, with their opcodes: the destination takes the source, and Z and N follow it,
but TXS changes no flag (R166 to R171). -/
def Obligations.TransferResults : Prop :=
  ∀ s : State,
    (encode .tax = [0xAA#8] ∧ RunsTo .tax s { s with x := s.a, p := znSpec s.a s.p }) ∧
    (encode .tay = [0xA8#8] ∧ RunsTo .tay s { s with y := s.a, p := znSpec s.a s.p }) ∧
    (encode .txa = [0x8A#8] ∧ RunsTo .txa s { s with a := s.x, p := znSpec s.x s.p }) ∧
    (encode .tya = [0x98#8] ∧ RunsTo .tya s { s with a := s.y, p := znSpec s.y s.p }) ∧
    (encode .tsx = [0xBA#8] ∧ RunsTo .tsx s { s with x := s.sp, p := znSpec s.sp s.p }) ∧
    (encode .txs = [0x9A#8] ∧ RunsTo .txs s { s with sp := s.x })

/-! ## Arithmetic and logic (42_alu.md) -/

/-- `set_zn(v)` sets Z iff the value is zero and N to its bit 7, and touches no other flag
(10_state.md R31). -/
def Obligations.SetZn : Prop :=
  ∀ (v : Byte) (p : Flags),
    p.setZn v = { c := p.c, z := decide (v = 0#8), i := p.i, d := p.d, v := p.v,
                  n := decide (v &&& 0x80#8 ≠ 0#8) }

/-- The status byte: C, Z, I, D in bits 0 to 3, bit 4 (B) reads 0, bit 5 (U) reads 1, V and N in bits 6
and 7; a pull of byte `b` leaves `(b & 0xCF) | 0x20`, and pulling what was pushed restores `P`
(10_state.md R22, R27, R28, R48). -/
def Obligations.StatusByte : Prop :=
  ∀ (p : Flags) (b : Byte),
    (p.toByte.getLsbD 0 = p.c ∧ p.toByte.getLsbD 1 = p.z ∧ p.toByte.getLsbD 2 = p.i ∧
      p.toByte.getLsbD 3 = p.d ∧ p.toByte.getLsbD 4 = false ∧ p.toByte.getLsbD 5 = true ∧
      p.toByte.getLsbD 6 = p.v ∧ p.toByte.getLsbD 7 = p.n) ∧
    (Flags.ofByte b).toByte = (b &&& 0xCF#8) ||| 0x20#8 ∧
    Flags.ofByte p.toByte = p ∧ Flags.ofByte (p.toByte ||| 0x30#8) = p

/-- ADC: the sum with the carry modulo 256; C the carry out of the unsigned sum, V whether the signed
sum does not fit, Z and N from the result. SBC, with the unofficial opcode 0xEB: the difference less
the borrow modulo 256; C no borrow, V whether the signed difference does not fit. D plays no part
(R180, R181, 46_unofficial.md R297). -/
def Obligations.AddSubResults : Prop :=
  ∀ (i : Instr) (s : State),
    (i.entry.operation = .ADC →
      ReadsThen i s fun v => { s with a := (addSpec s.a v s.p).1, p := (addSpec s.a v s.p).2 }) ∧
    (i.entry.operation = .SBC →
      ReadsThen i s fun v => { s with a := (subSpec s.a v s.p).1, p := (subSpec s.a v s.p).2 })

/-- V of ADC and of SBC, by the machine's own computations: it is the source's formula
"`V = (a^val)&0x80==0 && (a^result)&0x80!=0`", for SBC with the first conjunct inverted, and it is set
exactly where the signed result does not fit 8 bits; and SBC with an operand is ADC with its
complement, all four flags included (10_state.md R29, 42_alu.md R180, R181). -/
def Obligations.OverflowFormula : Prop :=
  ∀ (a v : Byte) (p : Flags),
    (adcFlags a v p).2.v = (decide ((a ^^^ v) &&& 0x80#8 = 0#8) &&
      decide ((a ^^^ (adcFlags a v p).1) &&& 0x80#8 ≠ 0#8)) ∧
    (adcFlags a v p).2.v = outOfSigned (a.toInt + v.toInt + p.c.toNat) ∧
    (sbcFlags a v p).2.v = (decide ((a ^^^ v) &&& 0x80#8 ≠ 0#8) &&
      decide ((a ^^^ (sbcFlags a v p).1) &&& 0x80#8 ≠ 0#8)) ∧
    (sbcFlags a v p).2.v = outOfSigned (a.toInt - v.toInt - (1 - p.c.toNat)) ∧
    sbcFlags a v p = adcFlags a (v ^^^ 0xFF#8) p

/-- AND, ORA, EOR; and BIT: Z from `A` and the operand, N and V the operand's bits 7 and 6, and nothing
else (R182 to R185). -/
def Obligations.LogicResults : Prop :=
  ∀ (i : Instr) (s : State),
    (i.entry.operation = .AND →
      ReadsThen i s fun v => { s with a := s.a &&& v, p := znSpec (s.a &&& v) s.p }) ∧
    (i.entry.operation = .ORA →
      ReadsThen i s fun v => { s with a := s.a ||| v, p := znSpec (s.a ||| v) s.p }) ∧
    (i.entry.operation = .EOR →
      ReadsThen i s fun v => { s with a := s.a ^^^ v, p := znSpec (s.a ^^^ v) s.p }) ∧
    (i.entry.operation = .BIT →
      ReadsThen i s fun v =>
        { s with p := { s.p with z := decide (s.a &&& v = 0#8), n := v.getLsbD 7,
                                 v := v.getLsbD 6 } })

/-- `Compare(r, v)`: C iff `r >= v` unsigned, Z iff equal, N bit 7 of the wrapped difference, and no
other flag (R196). -/
def Obligations.CompareFlags : Prop :=
  ∀ (r v : Byte) (p : Flags),
    p.compare r v = { c := decide (v.toNat ≤ r.toNat), z := decide (r = v), i := p.i, d := p.d,
                      v := p.v, n := (r - v).getLsbD 7 }

/-- CMP, CPX, CPY: only flags change (R186 to R188). -/
def Obligations.CompareResults : Prop :=
  ∀ (i : Instr) (s : State),
    (i.entry.operation = .CMP → ReadsThen i s fun v => { s with p := compareSpec s.a v s.p }) ∧
    (i.entry.operation = .CPX → ReadsThen i s fun v => { s with p := compareSpec s.x v s.p }) ∧
    (i.entry.operation = .CPY → ReadsThen i s fun v => { s with p := compareSpec s.y v s.p })

/-- INC and DEC: the byte is read, written back, and written one higher or one lower (R189, R190). -/
def Obligations.IncDecMemory : Prop :=
  ∀ (i : Instr) (s : State),
    (i.entry.operation = .INC →
      ModifiesThen i s fun v => (v + 1, { s with p := znSpec (v + 1) s.p })) ∧
    (i.entry.operation = .DEC →
      ModifiesThen i s fun v => (v - 1, { s with p := znSpec (v - 1) s.p }))

/-- INX, INY, DEX, DEY, with their opcode, mode and cycle count: the index register wraps, and Z and N
follow it (R191 to R194). -/
def Obligations.IncDecRegister : Prop :=
  ∀ s : State,
    (Instr.inx.opcode = 0xE8#8 ∧ Instr.inx.entry.mode = .IMP ∧ Instr.inx.entry.baseCycles = 2 ∧
      RunsTo .inx s { s with x := s.x + 1, p := znSpec (s.x + 1) s.p }) ∧
    (Instr.iny.opcode = 0xC8#8 ∧ Instr.iny.entry.mode = .IMP ∧ Instr.iny.entry.baseCycles = 2 ∧
      RunsTo .iny s { s with y := s.y + 1, p := znSpec (s.y + 1) s.p }) ∧
    (Instr.dex.opcode = 0xCA#8 ∧ Instr.dex.entry.mode = .IMP ∧ Instr.dex.entry.baseCycles = 2 ∧
      RunsTo .dex s { s with x := s.x - 1, p := znSpec (s.x - 1) s.p }) ∧
    (Instr.dey.opcode = 0x88#8 ∧ Instr.dey.entry.mode = .IMP ∧ Instr.dey.entry.baseCycles = 2 ∧
      RunsTo .dey s { s with y := s.y - 1, p := znSpec (s.y - 1) s.p })

/-! ## Shifts (43_shift_rotate.md) -/

/-- ASL, LSR, ROL, ROR in both forms: on `A`, or on memory as read, write back, write; C takes the bit
shifted out, the rotates take the old C in, Z and N follow the result (R210 to R214). -/
def Obligations.ShiftResults : Prop :=
  ∀ (i : Instr) (s : State) (o : Operation),
    o = .ASL ∨ o = .LSR ∨ o = .ROL ∨ o = .ROR → i.entry.operation = o →
    (i.entry.mode = .ACC →
      RunsTo i s { s with a := (shiftSpec o s.a s.p).1,
                          p := znSpec (shiftSpec o s.a s.p).1 (shiftSpec o s.a s.p).2 }) ∧
    (i.entry.mode ≠ .ACC →
      ModifiesThen i s fun v =>
        ((shiftSpec o v s.p).1,
          { s with p := znSpec (shiftSpec o v s.p).1 (shiftSpec o v s.p).2 }))

/-! ## Unofficial opcodes (46_unofficial.md) -/

/-- SLO, RLA, SRE, RRA, DCP, ISB: a shift, decrement or increment in memory, then ORA, AND, EOR, ADC,
CMP or SBC with its result (R271 to R276). -/
def Obligations.CombinedRmwResults : Prop :=
  ∀ (i : Instr) (s : State),
    (i.entry.operation = .SLO → ModifiesThen i s fun v =>
      let r := shiftSpec .ASL v s.p
      (r.1, { s with a := s.a ||| r.1, p := znSpec (s.a ||| r.1) r.2 })) ∧
    (i.entry.operation = .RLA → ModifiesThen i s fun v =>
      let r := shiftSpec .ROL v s.p
      (r.1, { s with a := s.a &&& r.1, p := znSpec (s.a &&& r.1) r.2 })) ∧
    (i.entry.operation = .SRE → ModifiesThen i s fun v =>
      let r := shiftSpec .LSR v s.p
      (r.1, { s with a := s.a ^^^ r.1, p := znSpec (s.a ^^^ r.1) r.2 })) ∧
    (i.entry.operation = .RRA → ModifiesThen i s fun v =>
      let r := shiftSpec .ROR v s.p
      (r.1, { s with a := (addSpec s.a r.1 r.2).1, p := (addSpec s.a r.1 r.2).2 })) ∧
    (i.entry.operation = .DCP → ModifiesThen i s fun v =>
      (v - 1, { s with p := compareSpec s.a (v - 1) s.p })) ∧
    (i.entry.operation = .ISB → ModifiesThen i s fun v =>
      (v + 1, { s with a := (subSpec s.a (v + 1) s.p).1, p := (subSpec s.a (v + 1) s.p).2 }))

/-- ANC (C is bit 7 of the result), ALR, ARR (C is bit 6 of the result, V the exclusive or of its bits
6 and 5), AXS (R280 to R283). -/
def Obligations.CombinedImmediateResults : Prop :=
  ∀ (i : Instr) (s : State),
    (i.entry.operation = .ANC → ReadsThen i s fun v =>
      { s with a := s.a &&& v, p := { znSpec (s.a &&& v) s.p with c := (s.a &&& v).msb } }) ∧
    (i.entry.operation = .ALR → ReadsThen i s fun v =>
      let r := shiftSpec .LSR (s.a &&& v) s.p
      { s with a := r.1, p := znSpec r.1 r.2 }) ∧
    (i.entry.operation = .ARR → ReadsThen i s fun v =>
      let r := (shiftSpec .ROR (s.a &&& v) s.p).1
      { s with a := r, p := { znSpec r s.p with c := r.getLsbD 6,
                                                v := r.getLsbD 6 ^^ r.getLsbD 5 } }) ∧
    (i.entry.operation = .AXS → ReadsThen i s fun v =>
      { s with x := (s.a &&& s.x) - v, p := compareSpec (s.a &&& s.x) v s.p })

/-- XAA and LAX immediate, for every value of their parameters, and LAS. The first two rest on log entry
8 (R278, R284, R285). -/
def Obligations.UnstableRegisterResults : Prop :=
  ∀ (i : Instr) (s : State),
    (i.entry.operation = .XAA → ReadsThen i s fun v =>
      { s with a := (s.a ||| s.params.xaaMagic) &&& s.x &&& v,
               p := znSpec ((s.a ||| s.params.xaaMagic) &&& s.x &&& v) s.p }) ∧
    (i.entry.operation = .LAX → i.entry.mode = .IMM → ReadsThen i s fun v =>
      { s with a := (s.a ||| s.params.lxaMagic) &&& v, x := (s.a ||| s.params.lxaMagic) &&& v,
               p := znSpec ((s.a ||| s.params.lxaMagic) &&& v) s.p }) ∧
    (i.entry.operation = .LAS → ReadsThen i s fun v =>
      { s with a := v &&& s.sp, x := v &&& s.sp, sp := v &&& s.sp, p := znSpec (v &&& s.sp) s.p })

/-- The 28 NOPs change no register, no flag and no memory; those with an operand read it (R291 to R296,
45_stack_flags_system.md R251). -/
def Obligations.NopResults : Prop :=
  ∀ (i : Instr) (s : State), i.entry.operation = .NOP →
    (i.entry.mode = .IMP → RunsTo i s s) ∧ (i.entry.mode ≠ .IMP → ReadsThen i s fun _ => s)

/-- A jam opcode sets `corrupted` and changes nothing else (R299). -/
def Obligations.JamResult : Prop :=
  ∀ (i : Instr) (s : State), i.entry.operation = .XXX → RunsTo i s { s with corrupted := true }

/-! ## Control flow (44_branch_jump.md) -/

/-- The eight branches: `PC` goes to the target where the condition holds and stays past the branch
where not; no flag changes (R220 to R228). -/
def Obligations.BranchResults : Prop :=
  ∀ (i : Instr) (s : State), i.entry.kind = .branch →
    RunsTo i s { s with pc := if branchTaken i.entry.operation s.p = true
                              then s.pc + sext16 (operandByte i) else s.pc }

/-- JMP: absolute to the operand; indirect to the address at the pointer, whose high byte comes from the
same page where the pointer ends in 0xFF (R229, R230). -/
def Obligations.JumpResults : Prop :=
  ∀ (addr : Word) (s : State),
    RunsTo (.jmpAbs addr) s { s with pc := addr } ∧
    ∃ l h t, exec (.jmpInd addr) s = .next t ∧ t.bus.mem = s.bus.mem ∧
      t = { s with pc := mk16 h l, latches := t.latches, bus := t.bus } ∧
      (∃ rest, t.bus.trace = .read (mk16 (hi addr) (lo addr + 1)) h :: rest ∧
        .read addr l ∈ rest) ∧
      MustRead s addr l ∧ MustRead s (mk16 (hi addr) (lo addr + 1)) h

/-- JSR pushes the address of its own third byte, high byte first, and jumps; RTS pulls the return
address, low byte first, and adds one (R231, R232). -/
def Obligations.CallResults : Prop :=
  ∀ (addr : Word) (s : State),
    PushesThen (.jsr addr) s [hi (s.pc - 1), lo (s.pc - 1)] { s with sp := s.sp - 2, pc := addr } ∧
    RunsTo .rts s
      { s with sp := s.sp + 2,
               pc := mk16 (s.ram (stackAddr (s.sp + 2))) (s.ram (stackAddr (s.sp + 1))) + 1 }

/-! ## Stack, flags, system (45_stack_flags_system.md) -/

/-- PHA pushes `A`; PHP pushes `P` with bits 4 and 5 set; PLA pulls `A` and sets Z and N; PLP pulls all
six flags (R240 to R243). -/
def Obligations.StackResults : Prop :=
  ∀ s : State,
    PushesThen .pha s [s.a] { s with sp := s.sp - 1 } ∧
    PushesThen .php s [s.p.toByte ||| 0x30#8] { s with sp := s.sp - 1 } ∧
    RunsTo .pla s { s with sp := s.sp + 1, a := s.ram (stackAddr (s.sp + 1)),
                           p := znSpec (s.ram (stackAddr (s.sp + 1))) s.p } ∧
    RunsTo .plp s { s with sp := s.sp + 1, p := Flags.ofByte (s.ram (stackAddr (s.sp + 1))) }

/-- What is pushed is pulled back, at every stack pointer (the stack wraps within page 1) and whatever
happened to the other registers in between: PLA after PHA, PLP after PHP, and RTS after JSR, which
comes back to the instruction after the JSR (10_state.md R46, 44_branch_jump.md R233). -/
def Obligations.StackRoundTrips : Prop :=
  ∀ (s : State) (addr pc' : Word) (a x y : Byte) (p : Flags),
    (∃ t u, exec .pha s = .next t ∧
      exec .pla { t with a := a, x := x, y := y, p := p, pc := pc' } = .next u ∧
      u.a = s.a ∧ u.sp = s.sp) ∧
    (∃ t u, exec .php s = .next t ∧
      exec .plp { t with a := a, x := x, y := y, p := p, pc := pc' } = .next u ∧
      u.p = s.p ∧ u.sp = s.sp) ∧
    (∃ t u, exec (.jsr addr) s = .next t ∧
      exec .rts { t with a := a, x := x, y := y, p := p, pc := pc' } = .next u ∧
      u.pc = s.pc ∧ u.sp = s.sp ∧ u.a = a ∧ u.x = x ∧ u.y = y ∧ u.p = p)

/-- CLC, SEC, CLD, SED, CLV, with their opcodes: one flag changes and nothing else (R244, R245, R248 to
R250); so do CLI and SEI, whose effect on interrupts the statements `CliDefersIrq` and
`SeiStillTakesIrq` give. -/
def Obligations.FlagResults : Prop :=
  ∀ s : State,
    (encode .clc = [0x18#8] ∧ RunsTo .clc s { s with p := { s.p with c := false } }) ∧
    (encode .sec = [0x38#8] ∧ RunsTo .sec s { s with p := { s.p with c := true } }) ∧
    (encode .cli = [0x58#8] ∧ RunsTo .cli s { s with p := { s.p with i := false } }) ∧
    (encode .sei = [0x78#8] ∧ RunsTo .sei s { s with p := { s.p with i := true } }) ∧
    (encode .cld = [0xD8#8] ∧ RunsTo .cld s { s with p := { s.p with d := false } }) ∧
    (encode .sed = [0xF8#8] ∧ RunsTo .sed s { s with p := { s.p with d := true } }) ∧
    (encode .clv = [0xB8#8] ∧ RunsTo .clv s { s with p := { s.p with v := false } })

/-- BRK pushes `PC` (its address plus 2), high byte first, and `P` with B and U set, sets I, and loads
`PC` from 0xFFFE, or from 0xFFFA where the NMI latch is set when the two bytes of `PC` have been
pushed (R252, 60_exceptions.md R316, R318). -/
def Obligations.BrkResult : Prop :=
  ∀ (pad : Byte) (s : State), ∃ l h t,
    exec (.brk pad) s = .next t ∧
    Pushed s t [hi s.pc, lo s.pc, s.p.toByte ||| 0x30#8] ∧
    t = { s with sp := s.sp - 3, p := { s.p with i := true }, pc := mk16 h l,
                 latches := t.latches, bus := t.bus } ∧
    VectorFetched s t
      (if ((s.bus.writeCycle s.p.i (stackAddr s.sp) (hi s.pc)).writeCycle s.p.i
            (stackAddr (s.sp - 1)) (lo s.pc)).nmi = true then 0xFFFA#16 else 0xFFFE#16) l h

/-- RTI pulls the six flags, then `PC`, with nothing added (R253, 60_exceptions.md R324). -/
def Obligations.RtiResult : Prop :=
  ∀ s : State, RunsTo .rti s
    { s with sp := s.sp + 3, p := Flags.ofByte (s.ram (stackAddr (s.sp + 1))),
             pc := mk16 (s.ram (stackAddr (s.sp + 3))) (s.ram (stackAddr (s.sp + 2))) }

/-! ## Interrupts (60_exceptions.md) -/

/-- The end of every cycle samples the lines: the shadows take the latches' old values, a rising edge
of the NMI line sets the NMI latch, the IRQ mask is a copy of the lines, and an IRQ is runnable
while one is asserted and I is clear (R313). -/
def Obligations.EveryCycleSamples : Prop :=
  ∀ (i : Bool) (addr : Word) (v : Byte) (b : Bus),
    Sampled i b (b.readCycle i addr).2 ∧ Sampled i b (b.writeCycle i addr v) ∧
    Sampled i b (b.idleCycle i)

/-- The interrupt sequence: `PC` and `P` with B clear and U set are pushed, I is set, and `PC` is loaded
from the NMI vector where the NMI latch is set at the end of the fourth cycle, else from the IRQ
vector. `A`, `X`, `Y` and the other flags stay (R315 to R318). -/
def Obligations.InterruptEntry : Prop :=
  ∀ s : State, ∃ l h t,
    interrupt s = t ∧
    Pushed s t [hi s.pc, lo s.pc, (s.p.toByte ||| 0x20#8) &&& 0xEF#8] ∧
    t = { s with sp := s.sp - 3, p := { s.p with i := true }, pc := mk16 h l,
                 latches := t.latches, bus := t.bus } ∧
    VectorFetched s t
      (if (((((s.bus.read s.p.i s.pc).2.read s.p.i s.pc).2.writeCycle s.p.i (stackAddr s.sp)
            (hi s.pc)).writeCycle s.p.i (stackAddr (s.sp - 1)) (lo s.pc))).nmi = true
        then 0xFFFA#16 else 0xFFFE#16) l h

/-- NMI has priority and is taken once per edge: an entry that begins with the NMI latch set takes the
NMI vector, and the latch is clear afterwards while the line makes no new rise (R316, R325). -/
def Obligations.NmiTakenOnce : Prop :=
  ∀ s : State, s.bus.nmi = true →
    (∃ l h, (interrupt s).pc = mk16 h l ∧ VectorFetched s (interrupt s) 0xFFFA#16 l h) ∧
    (s.bus.nmiLinePrev = s.bus.nmiLine → (∀ inp ∈ s.bus.inputs, inp.ppu = none) →
      (interrupt s).bus.nmi = false)

/-- RTI at the end of a handler continues the interrupted program at exactly the instruction that would
have run next, with its flags and its stack pointer, whatever the handler left in `A`, `X`, `Y`
(R317, R324). -/
def Obligations.RtiAfterInterrupt : Prop :=
  ∀ (s : State) (a x y : Byte) (pc' : Word) (p : Flags), ∃ u,
    exec .rti { interrupt s with a := a, x := x, y := y, pc := pc', p := p } = .next u ∧
    u.pc = s.pc ∧ u.p = s.p ∧ u.sp = s.sp ∧ u.a = a ∧ u.x = x ∧ u.y = y

/-- After a BRK the instruction-end check starts no second sequence: the handler's first instruction
runs (R323, 45_stack_flags_system.md R252). -/
def Obligations.NoInterruptAfterBrk : Prop :=
  ∀ (pad : Byte) (s : State), ∃ t,
    exec (.brk pad) s = .next t ∧ t.bus.prevNmi = false ∧ t.bus.prevRunIrq = false ∧
    instructionEnd t = t

/-- CLI takes effect on interrupt recognition late: a step that runs a CLI with I set takes no
interrupt, whatever the IRQ lines do (R320). -/
def Obligations.CliDefersIrq : Prop :=
  ∀ s : State, s.resetReq = none → s.jammed = false → BytesAt s s.pc [0x58#8] → s.p.i = true →
    NmiQuiet s →
    ∃ t, step s = .next t ∧ t.bus.mem = s.bus.mem ∧
      t = { s with pc := s.pc + 1, p := { s.p with i := false }, latches := t.latches,
                   bus := t.bus }

/-- SEI takes effect on interrupt recognition late: a step that runs a SEI with I clear and an IRQ held
ends in the IRQ's entry, with I set in the pushed status (R320). -/
def Obligations.SeiStillTakesIrq : Prop :=
  ∀ s : State, s.resetReq = none → s.jammed = false → BytesAt s s.pc [0x78#8] → s.p.i = false →
    NmiQuiet s → IrqHeld s →
    ∃ l h t, step s = .next t ∧
      Pushed s t [hi (s.pc + 1), lo (s.pc + 1), { s.p with i := true }.toByte] ∧
      t = { s with sp := s.sp - 3, p := { s.p with i := true }, pc := mk16 h l,
                   latches := t.latches, bus := t.bus } ∧
      VectorFetched s t 0xFFFE#16 l h

/-- PLP changes I too late for the check that follows it, and RTI in time: with I set before, a PLP is
followed by no IRQ; with an IRQ held, an RTI that pulls I clear is followed by one (R320). -/
def Obligations.PullLatency : Prop :=
  ∀ s : State,
    (s.p.i = true → ∃ t, exec .plp s = .next t ∧ t.bus.prevRunIrq = false) ∧
    ((s.ram (stackAddr (s.sp + 1))).getLsbD 2 = false → IrqHeld s →
      ∃ t, exec .rti s = .next t ∧ t.bus.prevRunIrq = true)

/-- The taken-branch quirk: with no DMA, a taken branch within the page hides an IRQ that has just
become runnable; one that crosses a page sees the lines of its next-to-last cycle (R322). -/
def Obligations.BranchQuirk : Prop :=
  ∀ (i : Instr) (s : State), i.entry.kind = .branch → NoDma s →
    ∃ t, exec i s = .next t ∧
      t.bus.prevRunIrq =
        if branchTaken i.entry.operation s.p = true then
          (if hi (branchTarget i s) ≠ hi s.pc then anyIrq (nextIrqLines s.bus) && !s.p.i
           else s.bus.runIrq && s.bus.prevRunIrq)
        else s.bus.prevRunIrq

/-! ## Memory and devices (20_memory.md, 60_exceptions.md) -/

/-- Internal RAM: a write in 0x0000 to 0x1FFF changes RAM byte `a & 0x07FF` and no other byte of
memory; a read there yields the byte last written, at every mirror (20_memory.md R63). -/
def Obligations.RamReadAfterWrite : Prop :=
  ∀ (i : Bool) (a a' : Word) (v : Byte) (b : Bus), a.toNat < 0x2000 →
    (∀ k, k ≠ (a &&& 0x07FF#16).toNat →
      Memory.byteAt (b.writeCycle i a v).mem k = Memory.byteAt b.mem k) ∧
    (a'.toNat < 0x2000 →
      ((b.writeCycle i a v).readCycle i a').1 =
        if a' &&& 0x07FF#16 = a &&& 0x07FF#16 then v else (b.readCycle i a').1)

/-- A cartridge window without write access ignores writes, one with it takes them; a window that can be
read yields its byte (20_memory.md R83). That cartridge space shows listed bytes, the one at the CPU's
own address, is log entry 1: the spec leaves the mapper a parameter. -/
def Obligations.CartridgeWindows : Prop :=
  ∀ (i : Bool) (addr : Word) (v : Byte) (b : Bus), 0x4020 ≤ addr.toNat → b.inputs = [] →
    (windowAccess b.windows addr.toNat ≠ .readWrite → (b.writeCycle i addr v).mem = b.mem) ∧
    (windowAccess b.windows addr.toNat = .readWrite → ∀ k,
      Memory.byteAt (b.writeCycle i addr v).mem k =
        if k = addr.toNat then v else Memory.byteAt b.mem k) ∧
    (windowAccess b.windows addr.toNat ≠ .none →
      (b.readCycle i addr).1 = Memory.byteAt b.mem addr.toNat)

/-- A read of 0x2002 or a mirror clears the VBlank flag and the write toggle and lowers the NMI line; a
read in the very cycle that sets the flag suppresses the NMI. A read of 0x2007 below the palette
returns the buffer and refills it with the byte the environment answers; at a palette address it
returns that byte at once (60_exceptions.md R346, R347, R349). The PPU port is log entry 7; that the
port's own address decides and that the environment's byte refills the buffer is log entry 20. -/
def Obligations.PpuPortReads : Prop :=
  ∀ (i : Bool) (addr : Word) (b : Bus), 0x2000 ≤ addr.toNat → addr.toNat < 0x4000 →
    (addr.toNat % 8 = 2 →
      (b.readCycle i addr).2.ppu.vblank = false ∧ (b.readCycle i addr).2.ppu.writeToggle = false ∧
      (b.readCycle i addr).2.nmiLine = false ∧ (b.readCycle i addr).2.nmi = b.nmi) ∧
    (addr.toNat % 8 = 7 → ∀ v, (beginCycle b).dataIn = some v →
      ((beginCycle b).ppu.vramAddr.toNat < 0x3F00 →
        (b.readCycle i addr).1 = (beginCycle b).ppu.readBuffer ∧
        (b.readCycle i addr).2.ppu.readBuffer = v) ∧
      (0x3F00 ≤ (beginCycle b).ppu.vramAddr.toNat → (b.readCycle i addr).1 = v))

/-- A write to 0x4014 requests OAM DMA of the page written; no other write requests one; writes to the
device registers change no memory (60_exceptions.md R330, R311). -/
def Obligations.OamDmaRequest : Prop :=
  ∀ (i : Bool) (addr : Word) (v : Byte) (b : Bus),
    (b.writeCycle i 0x4014#16 v).oamDma = true ∧ (b.writeCycle i 0x4014#16 v).oamDmaPage = v ∧
    (addr ≠ 0x4014#16 → (b.writeCycle i addr v).oamDma = b.oamDma ∧
      (b.writeCycle i addr v).oamDmaPage = b.oamDmaPage) ∧
    (0x2000 ≤ addr.toNat → addr.toNat < 0x4020 → (b.writeCycle i addr v).mem = b.mem)

/-! ## DMA (60_exceptions.md R332, R333) -/

/-- An OAM DMA with no DMC DMA about: after the halt cycle, and one alignment cycle where the write to
0x4014 was in an even cycle, the 256 bytes of the page are read in order and each is written to
0x2004: 513 or 514 cycles. Memory stays; bytes of RAM are the ones it holds. -/
def Obligations.OamDmaCopies : Prop :=
  ∀ (i : Bool) (addr : Word) (b : Bus), b.oamDma = true → b.dmcDma = false →
    (∀ inp ∈ b.inputs, inp.dmcReq = none) →
    ∃ vs wait, vs.length = 256 ∧ wait.length = (if b.cycle % 2 = 1 then 1 else 2) ∧
      (runDma i addr b).trace = (oamEvents b.oamDmaPage 0 vs).reverse ++ wait ++ b.trace ∧
      (runDma i addr b).cycle = b.cycle + (if b.cycle % 2 = 1 then 513 else 514) ∧
      (runDma i addr b).dmaPending = false ∧ (runDma i addr b).mem = b.mem ∧
      (b.oamDmaPage.toNat < 0x20 → ∀ k, k < 256 →
        vs[k]? = some (Memory.byteAt b.mem ((b.oamDmaPage.toNat * 256 + k) % 0x800)))

/-- DMA ends by itself, whatever requests the inputs bring, changes no byte of memory, and writes to
nothing but 0x2004. -/
def Obligations.DmaEnds : Prop :=
  ∀ (i : Bool) (addr : Word) (b : Bus),
    (runDma i addr b).oamDma = false ∧ (runDma i addr b).dmcDma = false ∧
    (runDma i addr b).mem = b.mem ∧
    ∃ evs, (runDma i addr b).trace = evs ++ b.trace ∧
      ∀ a v, BusEvent.write a v ∈ evs → a = 0x2004#16

/-- A DMC DMA with no OAM DMA about. Every kind of cycle in which the APU raises `dmc_dma_req(addr)` sets
the three flags and the address (R331). Where the dummy cycle is still owed and no further request
comes, `RunDma` makes the halt cycle, one dummy or alignment cycle more where the halt cycle's number
is odd and two where it is even, and the read of the address, and no other cycle: 3 or 4 in all; the
repeats are idle at the two controller registers. The byte read goes to the DMC buffer; no DMA is
pending and memory is as before (R332, R333 b). That a readable cartridge window yields the listed
byte is log entry 1. -/
def Obligations.DmcDmaReads : Prop :=
  (∀ (i : Bool) (addr target : Word) (v : Byte) (b : Bus) (inp : BusInput) (rest : List BusInput),
    b.inputs = inp :: rest → inp.dmcReq = some target →
    ∀ c ∈ [(b.readCycle i addr).2, b.writeCycle i addr v, b.idleCycle i],
      c.dmcDma = true ∧ c.halt = true ∧ c.dummyRead = true ∧ c.dmcDmaAddr = target) ∧
  ∀ (i : Bool) (addr : Word) (b : Bus), b.dmcDma = true → b.dummyRead = true → b.oamDma = false →
    (∀ inp ∈ b.inputs, inp.dmcReq = none) →
    ∃ v waits,
      (runDma i addr b).trace = .read b.dmcDmaAddr v :: waits ++ b.trace ∧
      waits.map eventAccess =
        List.replicate (if b.cycle % 2 = 0 then 1 else 2)
          (if addr = 0x4016#16 ∨ addr = 0x4017#16 then none else some (false, addr)) ++
        [some (false, addr)] ∧
      (runDma i addr b).dmcBuffer = some v ∧
      (runDma i addr b).cycle = b.cycle + (if b.cycle % 2 = 0 then 3 else 4) ∧
      (runDma i addr b).dmaPending = false ∧ (runDma i addr b).mem = b.mem ∧
      (0x4020 ≤ b.dmcDmaAddr.toNat → (∀ inp ∈ b.inputs, inp.data = none ∧ inp.windows = none) →
        windowAccess b.windows b.dmcDmaAddr.toNat ≠ .none →
        v = Memory.byteAt b.mem b.dmcDmaAddr.toNat)

/-! ## Reset (70_reset_and_hazards.md) -/

/-- A Hard reset: `A`, `X`, `Y` 0, `SP` 0xFD, `P` 0x24, `PC` from the vector at 0xFFFC, seven cycles, the
IRQ mask refreshed from the lines, no IRQ runnable, `corrupted` and DMA cleared. A pending NMI is
discarded: where the PPU's line is low and no input changes the PPU port, `nmi` and both its shadows
are clear. Internal RAM reads as RAM_INIT (R390, R391, R393). That the cartridge keeps its bytes is log
entry 16, and that the vector is read from the listed bytes is log entries 1 and 17. -/
def Obligations.HardReset : Prop :=
  ∀ s : State, s.resetReq = some .hard → ∃ l h t,
    step s = .next t ∧ t.a = 0 ∧ t.x = 0 ∧ t.y = 0 ∧ t.sp = 0xFD#8 ∧ t.p.toByte = 0x24#8 ∧
    t.pc = mk16 h l ∧ t.corrupted = false ∧ t.resetReq = none ∧ t.params = s.params ∧
    ResetBus s t l h ∧
    (∀ k, k < 0x800 → Memory.byteAt t.bus.mem k = Memory.unlisted k) ∧
    (∀ k, 0x800 ≤ k → Memory.byteAt t.bus.mem k = Memory.byteAt s.bus.mem k)

/-- A Soft reset: I set and the other flags unchanged, `SP` three lower, `A`, `X`, `Y` and internal RAM
unchanged, `PC` from the vector, seven cycles, the IRQ mask refreshed from the lines, no IRQ runnable,
`corrupted` and DMA cleared, and a pending NMI discarded as after a Hard reset (R390, R392, R393).
That the cartridge keeps its bytes too is log entry 16, and that the vector is read from the listed
bytes is log entries 1 and 17. -/
def Obligations.SoftReset : Prop :=
  ∀ s : State, s.resetReq = some .soft → ∃ l h t,
    step s = .next t ∧ t.a = s.a ∧ t.x = s.x ∧ t.y = s.y ∧ t.sp = s.sp - 3 ∧
    t.p = { s.p with i := true } ∧ t.pc = mk16 h l ∧ t.corrupted = false ∧ t.resetReq = none ∧
    t.params = s.params ∧ ResetBus s t l h ∧ t.bus.mem = s.bus.mem

/-! ## Timing (40_addressing_modes.md R150, 70_reset_and_hazards.md R413) -/

/-- Every instruction makes exactly the bus cycles of R150's table, in order, each a read or a write at its
address, none dropped and none added, when no DMA is about. The fetch reads the opcode and then the
operand bytes at `PC`, `PC + 1` and so on, whatever they are (the table's `op` entries, and the r(ea)
of Immediate); after the fetch, `exec` makes the rest of the table's row. That the fetch comes whole
before `exec`, and that Immediate's operand read is the fetch's, is log entry 10. Which vector BRK
reads is left open here and fixed by `BrkResult` (40_addressing_modes.md R131 to R150, 20_memory.md
R76). -/
def Obligations.BusCycles : Prop :=
  (∀ s : State, NoDma s →
    NoDma (fetchInstr s).2 ∧
    (fetchInstr s).2.bus.trace.map eventAccess =
      (fetchPlan (fetchInstr s).1 s.pc).reverse ++ s.bus.trace.map eventAccess) ∧
  ∀ (i : Instr) (s : State), NoDma s → ∃ t nmi,
    exec i s = .next t ∧
    t.bus.trace.map eventAccess = (busPlan nmi i s).reverse ++ s.bus.trace.map eventAccess

/-- A step takes the base cycles of its opcode, one more where a read-kind indexed mode crosses a page,
one or two more for a taken branch, and seven more where an interrupt sequence follows, when no DMA
is about (70_reset_and_hazards.md R413, R412). -/
def Obligations.StepCycles : Prop :=
  ∀ s : State, s.resetReq = none → s.jammed = false → NoDma s →
    ∃ t, exec (fetchInstr s).1 (fetchInstr s).2 = .next t ∧
      t.bus.cycle = s.bus.cycle + (fetchInstr s).1.entry.baseCycles +
        extraCycles (fetchInstr s).1 (fetchInstr s).2 ∧
      (t.bus.dmaPending = false → ∃ u, step s = .next u ∧
        u.bus.cycle = t.bus.cycle + (if t.bus.prevRunIrq || t.bus.prevNmi then 7 else 0))

/-! ## Whole-machine rules -/

/-- The invariant holds right after reset. -/
def Obligations.ResetInv : Prop := StateInv State.reset

/-- Every step keeps the invariant: memory in canonical form, no cycle dropped, the latches copies of
the lines, no IRQ runnable without a source. -/
def Obligations.StepKeepsInv : Prop := ∀ s t : State, StateInv s → step s = .next t → StateInv t

/-- `corrupted` is sticky: a step sets it exactly by running a jam opcode, and only a reset clears it;
the parameters never change (10_state.md R38, 70_reset_and_hazards.md R390). -/
def Obligations.CorruptedIsSticky : Prop :=
  ∀ s t : State, step s = .next t →
    t.params = s.params ∧ t.resetReq = none ∧
    (s.resetReq = none →
      t.corrupted = (s.corrupted || decide ((fetchInstr s).1.entry.operation = .XXX))) ∧
    (s.resetReq ≠ none → t.corrupted = false)

/-- Which instructions write which flag: all others leave it (10_state.md R23 to R30). -/
def Obligations.FlagWriters : Prop :=
  ∀ (i : Instr) (s : State), ∃ t, exec i s = .next t ∧
    (i.entry.operation ∉ [.ADC, .SBC, .CMP, .CPX, .CPY, .ASL, .LSR, .ROL, .ROR, .CLC, .SEC, .PLP,
      .RTI, .SLO, .RLA, .SRE, .RRA, .DCP, .ISB, .ANC, .ALR, .ARR, .AXS] → t.p.c = s.p.c) ∧
    (i.entry.operation ∉ [.SEI, .CLI, .PLP, .RTI, .BRK] → t.p.i = s.p.i) ∧
    (i.entry.operation ∉ [.SED, .CLD, .PLP, .RTI] → t.p.d = s.p.d) ∧
    (i.entry.operation ∉ [.ADC, .SBC, .BIT, .CLV, .PLP, .RTI, .RRA, .ISB, .ARR] →
      t.p.v = s.p.v) ∧
    (i.entry.operation ∈ [.STA, .STX, .STY, .SAX, .AHX, .TAS, .SHX, .SHY, .TXS, .PHA, .PHP, .JMP,
      .JSR, .RTS, .BRK, .BCC, .BCS, .BEQ, .BNE, .BMI, .BPL, .BVC, .BVS, .CLC, .SEC, .CLI, .SEI,
      .CLD, .SED, .CLV, .NOP, .XXX] → t.p.z = s.p.z ∧ t.p.n = s.p.n)

/-- Which instructions write which register, and which write memory: all others leave it
(10_state.md R47). -/
def Obligations.RegisterWriters : Prop :=
  ∀ (i : Instr) (s : State), ∃ t, exec i s = .next t ∧
    (i.entry.operation ∉ [.LDA, .PLA, .TXA, .TYA, .ADC, .SBC, .AND, .ORA, .EOR, .SLO, .RLA, .SRE,
      .RRA, .ISB, .LAX, .ANC, .ALR, .ARR, .XAA, .LAS] → i.entry.kind ≠ .acc → t.a = s.a) ∧
    (i.entry.operation ∉ [.LDX, .TAX, .TSX, .INX, .DEX, .LAX, .AXS, .LAS] → t.x = s.x) ∧
    (i.entry.operation ∉ [.LDY, .TAY, .INY, .DEY] → t.y = s.y) ∧
    (i.entry.operation ∉ [.TXS, .PHA, .PHP, .PLA, .PLP, .JSR, .RTS, .RTI, .BRK, .TAS, .LAS] →
      t.sp = s.sp) ∧
    (i.entry.kind ∉ [.branch, .jump, .brk] → i.entry.operation ∉ [.RTS, .RTI] → t.pc = s.pc) ∧
    (i.entry.kind ∉ [.store, .rmw, .brk] → i.entry.operation ∉ [.JSR, .PHA, .PHP] →
      t.bus.mem = s.bus.mem)

/-- There is no decimal mode: the D flag changes no result. Running an instruction with D the other way
gives the same state but for D, unless the instruction pushes or loads D (10_state.md R26,
42_alu.md R195). -/
def Obligations.DecimalFlagIgnored : Prop :=
  ∀ (i : Instr) (s : State) (d : Bool),
    i.entry.operation ∉ [.PHP, .BRK, .CLD, .SED, .PLP, .RTI] →
    ∃ t, exec i s = .next t ∧
      exec i { s with p := { s.p with d := d } } = .next { t with p := { t.p with d := d } }
end

