-- ==== Sys2Proof/Laws/State.lean ====
section
/-! SUPPORT. One lemma per field for each update of the state, of the flags and of the registers a
bus access leaves alone: later proofs cite these and unfold no record update. -/

namespace Sys2Proof.Machine

/-! ## Setters -/

@[simp] theorem State.setA_a (s : State) (v : Byte) : (s.setA v).a = v := rfl
@[simp] theorem State.setA_x (s : State) (v : Byte) : (s.setA v).x = s.x := rfl
@[simp] theorem State.setA_y (s : State) (v : Byte) : (s.setA v).y = s.y := rfl
@[simp] theorem State.setA_sp (s : State) (v : Byte) : (s.setA v).sp = s.sp := rfl
@[simp] theorem State.setA_pc (s : State) (v : Byte) : (s.setA v).pc = s.pc := rfl
@[simp] theorem State.setA_p (s : State) (v : Byte) : (s.setA v).p = s.p := rfl
@[simp] theorem State.setA_corrupted (s : State) (v : Byte) : (s.setA v).corrupted = s.corrupted := rfl
@[simp] theorem State.setA_latches (s : State) (v : Byte) : (s.setA v).latches = s.latches := rfl
@[simp] theorem State.setA_bus (s : State) (v : Byte) : (s.setA v).bus = s.bus := rfl
@[simp] theorem State.setA_resetReq (s : State) (v : Byte) : (s.setA v).resetReq = s.resetReq := rfl
@[simp] theorem State.setA_params (s : State) (v : Byte) : (s.setA v).params = s.params := rfl

@[simp] theorem State.setX_a (s : State) (v : Byte) : (s.setX v).a = s.a := rfl
@[simp] theorem State.setX_x (s : State) (v : Byte) : (s.setX v).x = v := rfl
@[simp] theorem State.setX_y (s : State) (v : Byte) : (s.setX v).y = s.y := rfl
@[simp] theorem State.setX_sp (s : State) (v : Byte) : (s.setX v).sp = s.sp := rfl
@[simp] theorem State.setX_pc (s : State) (v : Byte) : (s.setX v).pc = s.pc := rfl
@[simp] theorem State.setX_p (s : State) (v : Byte) : (s.setX v).p = s.p := rfl
@[simp] theorem State.setX_corrupted (s : State) (v : Byte) : (s.setX v).corrupted = s.corrupted := rfl
@[simp] theorem State.setX_latches (s : State) (v : Byte) : (s.setX v).latches = s.latches := rfl
@[simp] theorem State.setX_bus (s : State) (v : Byte) : (s.setX v).bus = s.bus := rfl
@[simp] theorem State.setX_resetReq (s : State) (v : Byte) : (s.setX v).resetReq = s.resetReq := rfl
@[simp] theorem State.setX_params (s : State) (v : Byte) : (s.setX v).params = s.params := rfl

@[simp] theorem State.setY_a (s : State) (v : Byte) : (s.setY v).a = s.a := rfl
@[simp] theorem State.setY_x (s : State) (v : Byte) : (s.setY v).x = s.x := rfl
@[simp] theorem State.setY_y (s : State) (v : Byte) : (s.setY v).y = v := rfl
@[simp] theorem State.setY_sp (s : State) (v : Byte) : (s.setY v).sp = s.sp := rfl
@[simp] theorem State.setY_pc (s : State) (v : Byte) : (s.setY v).pc = s.pc := rfl
@[simp] theorem State.setY_p (s : State) (v : Byte) : (s.setY v).p = s.p := rfl
@[simp] theorem State.setY_corrupted (s : State) (v : Byte) : (s.setY v).corrupted = s.corrupted := rfl
@[simp] theorem State.setY_latches (s : State) (v : Byte) : (s.setY v).latches = s.latches := rfl
@[simp] theorem State.setY_bus (s : State) (v : Byte) : (s.setY v).bus = s.bus := rfl
@[simp] theorem State.setY_resetReq (s : State) (v : Byte) : (s.setY v).resetReq = s.resetReq := rfl
@[simp] theorem State.setY_params (s : State) (v : Byte) : (s.setY v).params = s.params := rfl

@[simp] theorem State.setSp_a (s : State) (v : Byte) : (s.setSp v).a = s.a := rfl
@[simp] theorem State.setSp_x (s : State) (v : Byte) : (s.setSp v).x = s.x := rfl
@[simp] theorem State.setSp_y (s : State) (v : Byte) : (s.setSp v).y = s.y := rfl
@[simp] theorem State.setSp_sp (s : State) (v : Byte) : (s.setSp v).sp = v := rfl
@[simp] theorem State.setSp_pc (s : State) (v : Byte) : (s.setSp v).pc = s.pc := rfl
@[simp] theorem State.setSp_p (s : State) (v : Byte) : (s.setSp v).p = s.p := rfl
@[simp] theorem State.setSp_corrupted (s : State) (v : Byte) : (s.setSp v).corrupted = s.corrupted := rfl
@[simp] theorem State.setSp_latches (s : State) (v : Byte) : (s.setSp v).latches = s.latches := rfl
@[simp] theorem State.setSp_bus (s : State) (v : Byte) : (s.setSp v).bus = s.bus := rfl
@[simp] theorem State.setSp_resetReq (s : State) (v : Byte) : (s.setSp v).resetReq = s.resetReq := rfl
@[simp] theorem State.setSp_params (s : State) (v : Byte) : (s.setSp v).params = s.params := rfl

@[simp] theorem State.setPc_a (s : State) (v : Word) : (s.setPc v).a = s.a := rfl
@[simp] theorem State.setPc_x (s : State) (v : Word) : (s.setPc v).x = s.x := rfl
@[simp] theorem State.setPc_y (s : State) (v : Word) : (s.setPc v).y = s.y := rfl
@[simp] theorem State.setPc_sp (s : State) (v : Word) : (s.setPc v).sp = s.sp := rfl
@[simp] theorem State.setPc_pc (s : State) (v : Word) : (s.setPc v).pc = v := rfl
@[simp] theorem State.setPc_p (s : State) (v : Word) : (s.setPc v).p = s.p := rfl
@[simp] theorem State.setPc_corrupted (s : State) (v : Word) : (s.setPc v).corrupted = s.corrupted := rfl
@[simp] theorem State.setPc_latches (s : State) (v : Word) : (s.setPc v).latches = s.latches := rfl
@[simp] theorem State.setPc_bus (s : State) (v : Word) : (s.setPc v).bus = s.bus := rfl
@[simp] theorem State.setPc_resetReq (s : State) (v : Word) : (s.setPc v).resetReq = s.resetReq := rfl
@[simp] theorem State.setPc_params (s : State) (v : Word) : (s.setPc v).params = s.params := rfl

@[simp] theorem State.setP_a (s : State) (f : Flags) : (s.setP f).a = s.a := rfl
@[simp] theorem State.setP_x (s : State) (f : Flags) : (s.setP f).x = s.x := rfl
@[simp] theorem State.setP_y (s : State) (f : Flags) : (s.setP f).y = s.y := rfl
@[simp] theorem State.setP_sp (s : State) (f : Flags) : (s.setP f).sp = s.sp := rfl
@[simp] theorem State.setP_pc (s : State) (f : Flags) : (s.setP f).pc = s.pc := rfl
@[simp] theorem State.setP_p (s : State) (f : Flags) : (s.setP f).p = f := rfl
@[simp] theorem State.setP_corrupted (s : State) (f : Flags) : (s.setP f).corrupted = s.corrupted := rfl
@[simp] theorem State.setP_latches (s : State) (f : Flags) : (s.setP f).latches = s.latches := rfl
@[simp] theorem State.setP_bus (s : State) (f : Flags) : (s.setP f).bus = s.bus := rfl
@[simp] theorem State.setP_resetReq (s : State) (f : Flags) : (s.setP f).resetReq = s.resetReq := rfl
@[simp] theorem State.setP_params (s : State) (f : Flags) : (s.setP f).params = s.params := rfl

@[simp] theorem State.setBus_a (s : State) (b : Bus) : (s.setBus b).a = s.a := rfl
@[simp] theorem State.setBus_x (s : State) (b : Bus) : (s.setBus b).x = s.x := rfl
@[simp] theorem State.setBus_y (s : State) (b : Bus) : (s.setBus b).y = s.y := rfl
@[simp] theorem State.setBus_sp (s : State) (b : Bus) : (s.setBus b).sp = s.sp := rfl
@[simp] theorem State.setBus_pc (s : State) (b : Bus) : (s.setBus b).pc = s.pc := rfl
@[simp] theorem State.setBus_p (s : State) (b : Bus) : (s.setBus b).p = s.p := rfl
@[simp] theorem State.setBus_corrupted (s : State) (b : Bus) : (s.setBus b).corrupted = s.corrupted := rfl
@[simp] theorem State.setBus_latches (s : State) (b : Bus) : (s.setBus b).latches = s.latches := rfl
@[simp] theorem State.setBus_bus (s : State) (b : Bus) : (s.setBus b).bus = b := rfl
@[simp] theorem State.setBus_resetReq (s : State) (b : Bus) : (s.setBus b).resetReq = s.resetReq := rfl
@[simp] theorem State.setBus_params (s : State) (b : Bus) : (s.setBus b).params = s.params := rfl

@[simp] theorem State.setLatches_a (s : State) (l : Latches) : (s.setLatches l).a = s.a := rfl
@[simp] theorem State.setLatches_x (s : State) (l : Latches) : (s.setLatches l).x = s.x := rfl
@[simp] theorem State.setLatches_y (s : State) (l : Latches) : (s.setLatches l).y = s.y := rfl
@[simp] theorem State.setLatches_sp (s : State) (l : Latches) : (s.setLatches l).sp = s.sp := rfl
@[simp] theorem State.setLatches_pc (s : State) (l : Latches) : (s.setLatches l).pc = s.pc := rfl
@[simp] theorem State.setLatches_p (s : State) (l : Latches) : (s.setLatches l).p = s.p := rfl
@[simp] theorem State.setLatches_corrupted (s : State) (l : Latches) : (s.setLatches l).corrupted = s.corrupted := rfl
@[simp] theorem State.setLatches_latches (s : State) (l : Latches) : (s.setLatches l).latches = l := rfl
@[simp] theorem State.setLatches_bus (s : State) (l : Latches) : (s.setLatches l).bus = s.bus := rfl
@[simp] theorem State.setLatches_resetReq (s : State) (l : Latches) : (s.setLatches l).resetReq = s.resetReq := rfl
@[simp] theorem State.setLatches_params (s : State) (l : Latches) : (s.setLatches l).params = s.params := rfl

@[simp] theorem State.setZn_a (s : State) (v : Byte) : (s.setZn v).a = s.a := rfl
@[simp] theorem State.setZn_x (s : State) (v : Byte) : (s.setZn v).x = s.x := rfl
@[simp] theorem State.setZn_y (s : State) (v : Byte) : (s.setZn v).y = s.y := rfl
@[simp] theorem State.setZn_sp (s : State) (v : Byte) : (s.setZn v).sp = s.sp := rfl
@[simp] theorem State.setZn_pc (s : State) (v : Byte) : (s.setZn v).pc = s.pc := rfl
@[simp] theorem State.setZn_p (s : State) (v : Byte) : (s.setZn v).p = s.p.setZn v := rfl
@[simp] theorem State.setZn_corrupted (s : State) (v : Byte) : (s.setZn v).corrupted = s.corrupted := rfl
@[simp] theorem State.setZn_latches (s : State) (v : Byte) : (s.setZn v).latches = s.latches := rfl
@[simp] theorem State.setZn_bus (s : State) (v : Byte) : (s.setZn v).bus = s.bus := rfl
@[simp] theorem State.setZn_resetReq (s : State) (v : Byte) : (s.setZn v).resetReq = s.resetReq := rfl
@[simp] theorem State.setZn_params (s : State) (v : Byte) : (s.setZn v).params = s.params := rfl

/-! ## Flags -/

@[simp] theorem Flags.setZn_c (p : Flags) (v : Byte) : (p.setZn v).c = p.c := rfl
@[simp] theorem Flags.setZn_z (p : Flags) (v : Byte) : (p.setZn v).z = (v == 0#8) := rfl
@[simp] theorem Flags.setZn_i (p : Flags) (v : Byte) : (p.setZn v).i = p.i := rfl
@[simp] theorem Flags.setZn_d (p : Flags) (v : Byte) : (p.setZn v).d = p.d := rfl
@[simp] theorem Flags.setZn_v (p : Flags) (v : Byte) : (p.setZn v).v = p.v := rfl
@[simp] theorem Flags.setZn_n (p : Flags) (v : Byte) : (p.setZn v).n = v.getLsbD 7 := rfl
@[simp] theorem Flags.compare_c (p : Flags) (r v : Byte) : (p.compare r v).c = decide (v.toNat ≤ r.toNat) := rfl
@[simp] theorem Flags.compare_z (p : Flags) (r v : Byte) : (p.compare r v).z = (r - v == 0#8) := rfl
@[simp] theorem Flags.compare_i (p : Flags) (r v : Byte) : (p.compare r v).i = p.i := rfl
@[simp] theorem Flags.compare_d (p : Flags) (r v : Byte) : (p.compare r v).d = p.d := rfl
@[simp] theorem Flags.compare_v (p : Flags) (r v : Byte) : (p.compare r v).v = p.v := rfl
@[simp] theorem Flags.compare_n (p : Flags) (r v : Byte) : (p.compare r v).n = (r - v).getLsbD 7 := rfl
@[simp] theorem Flags.bitTest_c (p : Flags) (a v : Byte) : (p.bitTest a v).c = p.c := rfl
@[simp] theorem Flags.bitTest_z (p : Flags) (a v : Byte) : (p.bitTest a v).z = ((a &&& v) == 0#8) := rfl
@[simp] theorem Flags.bitTest_i (p : Flags) (a v : Byte) : (p.bitTest a v).i = p.i := rfl
@[simp] theorem Flags.bitTest_d (p : Flags) (a v : Byte) : (p.bitTest a v).d = p.d := rfl
@[simp] theorem Flags.bitTest_v (p : Flags) (a v : Byte) : (p.bitTest a v).v = v.getLsbD 6 := rfl
@[simp] theorem Flags.bitTest_n (p : Flags) (a v : Byte) : (p.bitTest a v).n = v.getLsbD 7 := rfl
@[simp] theorem adcFlags_i (a v : Byte) (p : Flags) : (adcFlags a v p).2.i = p.i := rfl
@[simp] theorem adcFlags_d (a v : Byte) (p : Flags) : (adcFlags a v p).2.d = p.d := rfl
@[simp] theorem adcFlags_z (a v : Byte) (p : Flags) : (adcFlags a v p).2.z = ((adcFlags a v p).1 == 0#8) := rfl
@[simp] theorem adcFlags_n (a v : Byte) (p : Flags) : (adcFlags a v p).2.n = (adcFlags a v p).1.getLsbD 7 := rfl
@[simp] theorem sbcFlags_i (a v : Byte) (p : Flags) : (sbcFlags a v p).2.i = p.i := rfl
@[simp] theorem sbcFlags_d (a v : Byte) (p : Flags) : (sbcFlags a v p).2.d = p.d := rfl
@[simp] theorem sbcFlags_z (a v : Byte) (p : Flags) : (sbcFlags a v p).2.z = ((sbcFlags a v p).1 == 0#8) := rfl
@[simp] theorem sbcFlags_n (a v : Byte) (p : Flags) : (sbcFlags a v p).2.n = (sbcFlags a v p).1.getLsbD 7 := rfl
@[simp] theorem aslBits_c (v : Byte) (p : Flags) : (aslBits v p).2.c = v.getLsbD 7 := rfl
@[simp] theorem aslBits_z (v : Byte) (p : Flags) : (aslBits v p).2.z = p.z := rfl
@[simp] theorem aslBits_i (v : Byte) (p : Flags) : (aslBits v p).2.i = p.i := rfl
@[simp] theorem aslBits_d (v : Byte) (p : Flags) : (aslBits v p).2.d = p.d := rfl
@[simp] theorem aslBits_v (v : Byte) (p : Flags) : (aslBits v p).2.v = p.v := rfl
@[simp] theorem aslBits_n (v : Byte) (p : Flags) : (aslBits v p).2.n = p.n := rfl
@[simp] theorem lsrBits_c (v : Byte) (p : Flags) : (lsrBits v p).2.c = v.getLsbD 0 := rfl
@[simp] theorem lsrBits_z (v : Byte) (p : Flags) : (lsrBits v p).2.z = p.z := rfl
@[simp] theorem lsrBits_i (v : Byte) (p : Flags) : (lsrBits v p).2.i = p.i := rfl
@[simp] theorem lsrBits_d (v : Byte) (p : Flags) : (lsrBits v p).2.d = p.d := rfl
@[simp] theorem lsrBits_v (v : Byte) (p : Flags) : (lsrBits v p).2.v = p.v := rfl
@[simp] theorem lsrBits_n (v : Byte) (p : Flags) : (lsrBits v p).2.n = p.n := rfl
@[simp] theorem rolBits_c (v : Byte) (p : Flags) : (rolBits v p).2.c = v.getLsbD 7 := rfl
@[simp] theorem rolBits_z (v : Byte) (p : Flags) : (rolBits v p).2.z = p.z := rfl
@[simp] theorem rolBits_i (v : Byte) (p : Flags) : (rolBits v p).2.i = p.i := rfl
@[simp] theorem rolBits_d (v : Byte) (p : Flags) : (rolBits v p).2.d = p.d := rfl
@[simp] theorem rolBits_v (v : Byte) (p : Flags) : (rolBits v p).2.v = p.v := rfl
@[simp] theorem rolBits_n (v : Byte) (p : Flags) : (rolBits v p).2.n = p.n := rfl
@[simp] theorem rorBits_c (v : Byte) (p : Flags) : (rorBits v p).2.c = v.getLsbD 0 := rfl
@[simp] theorem rorBits_z (v : Byte) (p : Flags) : (rorBits v p).2.z = p.z := rfl
@[simp] theorem rorBits_i (v : Byte) (p : Flags) : (rorBits v p).2.i = p.i := rfl
@[simp] theorem rorBits_d (v : Byte) (p : Flags) : (rorBits v p).2.d = p.d := rfl
@[simp] theorem rorBits_v (v : Byte) (p : Flags) : (rorBits v p).2.v = p.v := rfl
@[simp] theorem rorBits_n (v : Byte) (p : Flags) : (rorBits v p).2.n = p.n := rfl

/-! ## A bus access leaves every register alone -/

@[simp] theorem memRead_a (addr : Word) (s : State) : (memRead addr s).2.a = s.a := rfl
@[simp] theorem memRead_x (addr : Word) (s : State) : (memRead addr s).2.x = s.x := rfl
@[simp] theorem memRead_y (addr : Word) (s : State) : (memRead addr s).2.y = s.y := rfl
@[simp] theorem memRead_sp (addr : Word) (s : State) : (memRead addr s).2.sp = s.sp := rfl
@[simp] theorem memRead_pc (addr : Word) (s : State) : (memRead addr s).2.pc = s.pc := rfl
@[simp] theorem memRead_p (addr : Word) (s : State) : (memRead addr s).2.p = s.p := rfl
@[simp] theorem memRead_corrupted (addr : Word) (s : State) : (memRead addr s).2.corrupted = s.corrupted := rfl
@[simp] theorem memRead_latches (addr : Word) (s : State) : (memRead addr s).2.latches = s.latches := rfl
@[simp] theorem memRead_resetReq (addr : Word) (s : State) : (memRead addr s).2.resetReq = s.resetReq := rfl
@[simp] theorem memRead_params (addr : Word) (s : State) : (memRead addr s).2.params = s.params := rfl
@[simp] theorem dummyRead_a (addr : Word) (s : State) : (dummyRead addr s).a = s.a := rfl
@[simp] theorem dummyRead_x (addr : Word) (s : State) : (dummyRead addr s).x = s.x := rfl
@[simp] theorem dummyRead_y (addr : Word) (s : State) : (dummyRead addr s).y = s.y := rfl
@[simp] theorem dummyRead_sp (addr : Word) (s : State) : (dummyRead addr s).sp = s.sp := rfl
@[simp] theorem dummyRead_pc (addr : Word) (s : State) : (dummyRead addr s).pc = s.pc := rfl
@[simp] theorem dummyRead_p (addr : Word) (s : State) : (dummyRead addr s).p = s.p := rfl
@[simp] theorem dummyRead_corrupted (addr : Word) (s : State) : (dummyRead addr s).corrupted = s.corrupted := rfl
@[simp] theorem dummyRead_latches (addr : Word) (s : State) : (dummyRead addr s).latches = s.latches := rfl
@[simp] theorem dummyRead_resetReq (addr : Word) (s : State) : (dummyRead addr s).resetReq = s.resetReq := rfl
@[simp] theorem dummyRead_params (addr : Word) (s : State) : (dummyRead addr s).params = s.params := rfl
@[simp] theorem memWrite_a (addr : Word) (v : Byte) (s : State) : (memWrite addr v s).a = s.a := rfl
@[simp] theorem memWrite_x (addr : Word) (v : Byte) (s : State) : (memWrite addr v s).x = s.x := rfl
@[simp] theorem memWrite_y (addr : Word) (v : Byte) (s : State) : (memWrite addr v s).y = s.y := rfl
@[simp] theorem memWrite_sp (addr : Word) (v : Byte) (s : State) : (memWrite addr v s).sp = s.sp := rfl
@[simp] theorem memWrite_pc (addr : Word) (v : Byte) (s : State) : (memWrite addr v s).pc = s.pc := rfl
@[simp] theorem memWrite_p (addr : Word) (v : Byte) (s : State) : (memWrite addr v s).p = s.p := rfl
@[simp] theorem memWrite_corrupted (addr : Word) (v : Byte) (s : State) : (memWrite addr v s).corrupted = s.corrupted := rfl
@[simp] theorem memWrite_latches (addr : Word) (v : Byte) (s : State) : (memWrite addr v s).latches = s.latches := rfl
@[simp] theorem memWrite_resetReq (addr : Word) (v : Byte) (s : State) : (memWrite addr v s).resetReq = s.resetReq := rfl
@[simp] theorem memWrite_params (addr : Word) (v : Byte) (s : State) : (memWrite addr v s).params = s.params := rfl
@[simp] theorem memRead_bus (addr : Word) (s : State) :
    (memRead addr s).2.bus = (s.bus.read s.p.i addr).2 := rfl
@[simp] theorem memRead_val (addr : Word) (s : State) :
    (memRead addr s).1 = (s.bus.read s.p.i addr).1 := rfl
@[simp] theorem dummyRead_bus (addr : Word) (s : State) :
    (dummyRead addr s).bus = (s.bus.read s.p.i addr).2 := rfl
@[simp] theorem memWrite_bus (addr : Word) (v : Byte) (s : State) :
    (memWrite addr v s).bus = s.bus.writeCycle s.p.i addr v := rfl

/-! ## The sampling at the end of a cycle (60_exceptions.md R313) -/

@[simp] theorem endCycle_cycle (i : Bool) (b : Bus) : (endCycle i b).cycle = b.cycle := rfl
@[simp] theorem endCycle_irq (i : Bool) (b : Bus) : (endCycle i b).irq = b.irqLines := rfl
@[simp] theorem endCycle_nmi (i : Bool) (b : Bus) : (endCycle i b).nmi = (b.nmi || (b.nmiLine && !b.nmiLinePrev)) := rfl
@[simp] theorem endCycle_prevNmi (i : Bool) (b : Bus) : (endCycle i b).prevNmi = b.nmi := rfl
@[simp] theorem endCycle_nmiLinePrev (i : Bool) (b : Bus) : (endCycle i b).nmiLinePrev = b.nmiLine := rfl
@[simp] theorem endCycle_runIrq (i : Bool) (b : Bus) : (endCycle i b).runIrq = (anyIrq b.irqLines && !i) := rfl
@[simp] theorem endCycle_prevRunIrq (i : Bool) (b : Bus) : (endCycle i b).prevRunIrq = b.runIrq := rfl
@[simp] theorem endCycle_oamDma (i : Bool) (b : Bus) : (endCycle i b).oamDma = b.oamDma := rfl
@[simp] theorem endCycle_oamDmaPage (i : Bool) (b : Bus) : (endCycle i b).oamDmaPage = b.oamDmaPage := rfl
@[simp] theorem endCycle_dmcDma (i : Bool) (b : Bus) : (endCycle i b).dmcDma = b.dmcDma := rfl
@[simp] theorem endCycle_dmcDmaAddr (i : Bool) (b : Bus) : (endCycle i b).dmcDmaAddr = b.dmcDmaAddr := rfl
@[simp] theorem endCycle_halt (i : Bool) (b : Bus) : (endCycle i b).halt = b.halt := rfl
@[simp] theorem endCycle_dummyRead (i : Bool) (b : Bus) : (endCycle i b).dummyRead = b.dummyRead := rfl
@[simp] theorem endCycle_dmcBuffer (i : Bool) (b : Bus) : (endCycle i b).dmcBuffer = b.dmcBuffer := rfl
@[simp] theorem endCycle_openBus (i : Bool) (b : Bus) : (endCycle i b).openBus = b.openBus := rfl
@[simp] theorem endCycle_mem (i : Bool) (b : Bus) : (endCycle i b).mem = b.mem := rfl
@[simp] theorem endCycle_windows (i : Bool) (b : Bus) : (endCycle i b).windows = b.windows := rfl
@[simp] theorem endCycle_irqLines (i : Bool) (b : Bus) : (endCycle i b).irqLines = b.irqLines := rfl
@[simp] theorem endCycle_dataIn (i : Bool) (b : Bus) : (endCycle i b).dataIn = b.dataIn := rfl
@[simp] theorem endCycle_ppu (i : Bool) (b : Bus) : (endCycle i b).ppu = b.ppu := rfl
@[simp] theorem endCycle_inputs (i : Bool) (b : Bus) : (endCycle i b).inputs = b.inputs := rfl
@[simp] theorem endCycle_draws (i : Bool) (b : Bus) : (endCycle i b).draws = b.draws := rfl
@[simp] theorem endCycle_trace (i : Bool) (b : Bus) : (endCycle i b).trace = b.trace := rfl

end Sys2Proof.Machine
end

