-- ==== Sys2Proof/Laws/Memory.lean ====
section
/-! SUPPORT. The laws of the memory listing: read after write, and that every operation keeps the
canonical form; and the address map. -/

namespace Sys2Proof.Machine

theorem Memory.read?_set_same (m : Memory) (k : Nat) (v : Byte) :
    Memory.read? (Memory.set m k v) k = some v := by
  induction m with
  | nil => simp [Memory.set, Memory.read?]
  | cons c rest ih =>
    obtain ⟨k', w⟩ := c
    simp only [Memory.set]
    split
    · simp [Memory.read?]
    · split
      · simp [Memory.read?]
      · rename_i h1 h2
        have : k' ≠ k := fun h => h2 h.symm
        simp [Memory.read?, this, ih]

theorem Memory.read?_set_ne (m : Memory) {k k' : Nat} (v : Byte) (h : k' ≠ k) :
    Memory.read? (Memory.set m k v) k' = Memory.read? m k' := by
  induction m with
  | nil => simp [Memory.set, Memory.read?, h.symm]
  | cons c rest ih =>
    obtain ⟨j, w⟩ := c
    simp only [Memory.set]
    split
    · simp [Memory.read?, h.symm]
    · split
      · rename_i _ h2
        subst h2
        simp [Memory.read?, h.symm]
      · simp [Memory.read?, ih]

/-- Read after write. -/
@[simp] theorem Memory.byteAt_set_same (m : Memory) (k : Nat) (v : Byte) :
    Memory.byteAt (Memory.set m k v) k = v := by
  simp [Memory.byteAt, Memory.read?_set_same]

/-- A write leaves every other place alone. -/
theorem Memory.byteAt_set_ne (m : Memory) {k k' : Nat} (v : Byte) (h : k' ≠ k) :
    Memory.byteAt (Memory.set m k v) k' = Memory.byteAt m k' := by
  simp [Memory.byteAt, Memory.read?_set_ne m v h]

theorem Memory.byteAt_set (m : Memory) (k k' : Nat) (v : Byte) :
    Memory.byteAt (Memory.set m k v) k' = if k' = k then v else Memory.byteAt m k' := by
  split
  · subst k'; simp
  · exact Memory.byteAt_set_ne m v ‹_›

/-- The canonical form as two plain facts. -/
theorem Memory.wf_iff (m : Memory) :
    Memory.wf m = true ↔
      (∀ c ∈ m, Memory.keyOk c.1 = true) ∧ m.Pairwise (fun c d => c.1 < d.1) := by
  induction m with
  | nil => simp [Memory.wf]
  | cons c rest ih =>
    obtain ⟨k, v⟩ := c
    cases rest with
    | nil => simp [Memory.wf]
    | cons d rest =>
      obtain ⟨k', v'⟩ := d
      simp only [Memory.wf, Bool.and_eq_true, decide_eq_true_eq, ih]
      constructor
      · rintro ⟨⟨hk, hlt⟩, hok, hp⟩
        refine ⟨?_, ?_⟩
        · intro c hc
          rcases List.mem_cons.1 hc with rfl | hc
          · exact hk
          · exact hok c hc
        · refine List.pairwise_cons.2 ⟨?_, hp⟩
          intro c hc
          rcases List.mem_cons.1 hc with rfl | hc
          · exact hlt
          · exact hlt.trans ((List.pairwise_cons.1 hp).1 c hc)
      · rintro ⟨hok, hp⟩
        have hp' := List.pairwise_cons.1 hp
        exact ⟨⟨hok (k, v) (by simp), hp'.1 (k', v') (by simp)⟩, fun c hc => hok c (List.mem_cons_of_mem _ hc), hp'.2⟩

theorem Memory.mem_set {m : Memory} {k : Nat} {v : Byte} {c : Host.Cell}
    (h : c ∈ Memory.set m k v) : c = (k, v) ∨ c ∈ m := by
  induction m with
  | nil => simpa [Memory.set] using h
  | cons d rest ih =>
    obtain ⟨j, w⟩ := d
    simp only [Memory.set] at h
    split at h
    · simpa using h
    · split at h
      · rcases List.mem_cons.1 h with h | h
        · exact .inl h
        · exact .inr (List.mem_cons_of_mem _ h)
      · rcases List.mem_cons.1 h with h | h
        · exact .inr (by simp [h])
        · rcases ih h with h | h
          · exact .inl h
          · exact .inr (List.mem_cons_of_mem _ h)

/-- A write at a place memory has keeps the canonical form. -/
theorem Memory.wf_set {m : Memory} {k : Nat} (v : Byte) (hk : Memory.keyOk k = true)
    (h : Memory.wf m = true) : Memory.wf (Memory.set m k v) = true := by
  rw [Memory.wf_iff] at h ⊢
  refine ⟨fun c hc => ?_, ?_⟩
  · rcases Memory.mem_set hc with rfl | hc
    · exact hk
    · exact h.1 c hc
  · have hp := h.2
    clear h hk
    induction m with
    | nil => simp [Memory.set]
    | cons d rest ih =>
      obtain ⟨j, w⟩ := d
      obtain ⟨hj, hr⟩ := List.pairwise_cons.1 hp
      simp only [Memory.set]
      split
      · rename_i hlt
        refine List.pairwise_cons.2 ⟨fun c hc => ?_, hp⟩
        rcases List.mem_cons.1 hc with rfl | hc
        · exact hlt
        · exact hlt.trans (hj c hc)
      · split
        · rename_i _ heq
          subst heq
          exact List.pairwise_cons.2 ⟨hj, hr⟩
        · rename_i h1 h2
          refine List.pairwise_cons.2 ⟨fun c hc => ?_, ih hr⟩
          rcases Memory.mem_set hc with rfl | hc
          · show j < k
            omega
          · exact hj c hc

/-- Dropping entries keeps the canonical form (a Hard reset forgets internal RAM). -/
theorem Memory.wf_filter {m : Memory} (f : Host.Cell → Bool) (h : Memory.wf m = true) :
    Memory.wf (m.filter f) = true := by
  rw [Memory.wf_iff] at h ⊢
  exact ⟨fun c hc => h.1 c (List.mem_filter.1 hc).1, h.2.filter f⟩

/-- Every key the address map names is a place memory has. -/
theorem memKey_keyOk {addr : Word} {k : Nat} (h : memKey addr = some k) :
    Memory.keyOk k = true := by
  have hlt : addr.toNat < 65536 := addr.isLt
  unfold memKey busTarget at h
  by_cases h1 : addr.toNat < 0x2000
  · simp only [h1, if_true, Option.some.injEq] at h
    subst h
    simp only [Memory.keyOk, Bool.or_eq_true, decide_eq_true_eq]
    left; omega
  · by_cases h2 : addr.toNat < 0x4000
    · simp [h1, h2] at h
    · by_cases h3 : addr.toNat < 0x4018
      · simp [h1, h2, h3] at h
      · by_cases h4 : addr.toNat < 0x4020
        · simp [h1, h2, h3, h4] at h
        · simp only [h1, h2, h3, h4, if_false, Option.some.injEq] at h
          subst h
          simp only [Memory.keyOk, Bool.or_eq_true, Bool.and_eq_true, decide_eq_true_eq]
          right; omega

/-- Placing an instruction keeps the canonical form. -/
theorem pokeBytes_wf (bs : List Byte) (addr : Word) (m : Memory) (h : Memory.wf m = true) :
    Memory.wf (pokeBytes bs addr m) = true := by
  induction bs generalizing addr m with
  | nil => exact h
  | cons v vs ih =>
    simp only [pokeBytes]
    apply ih
    split
    · exact Memory.wf_set v (memKey_keyOk ‹_›) h
    · exact h

/-- The memory after reset is in canonical form. -/
theorem reset_mem_wf : Memory.wf State.reset.bus.mem = true := rfl

/-! ## The address map -/

theorem busTarget_ram {addr : Word} (h : addr.toNat < 0x2000) :
    busTarget addr = .ram (addr.toNat % 0x800) := by
  simp [busTarget, h]

theorem busTarget_cart {addr : Word} (h : 0x4020 ≤ addr.toNat) : busTarget addr = .cart := by
  have h1 : ¬ addr.toNat < 0x2000 := by omega
  have h2 : ¬ addr.toNat < 0x4000 := by omega
  have h3 : ¬ addr.toNat < 0x4018 := by omega
  have h4 : ¬ addr.toNat < 0x4020 := by omega
  simp [busTarget, h1, h2, h3, h4]

theorem memKey_ram {addr : Word} (h : addr.toNat < 0x2000) :
    memKey addr = some (addr.toNat % 0x800) := by
  simp [memKey, busTarget_ram h]

theorem memKey_cart {addr : Word} (h : 0x4020 ≤ addr.toNat) : memKey addr = some addr.toNat := by
  simp [memKey, busTarget_cart h]

/-- The device registers and the unmapped range are no memory. -/
theorem memKey_device {addr : Word} (h1 : 0x2000 ≤ addr.toNat) (h2 : addr.toNat < 0x4020) :
    memKey addr = none := by
  have h3 : ¬ addr.toNat < 0x2000 := by omega
  unfold memKey busTarget
  by_cases h4 : addr.toNat < 0x4000
  · simp [h3, h4]
  · by_cases h5 : addr.toNat < 0x4018
    · simp [h3, h4, h5]
    · simp [h3, h4, h5, h2]

/-- A stack address is in internal RAM, at its own key. -/
theorem stackAddr_toNat (sp : Byte) : (stackAddr sp).toNat = 0x100 + sp.toNat := by
  revert sp; decide

theorem stackAddr_ram (sp : Byte) : (stackAddr sp).toNat < 0x2000 := by
  rw [stackAddr_toNat]; have := sp.isLt; omega

/-- Different stack pointers name different stack bytes. -/
theorem stackAddr_inj {p q : Byte} (h : stackAddr p = stackAddr q) : p = q := by
  have := congrArg BitVec.toNat h
  rw [stackAddr_toNat, stackAddr_toNat] at this
  exact BitVec.eq_of_toNat_eq (by omega)

/-- A zero-page address is in internal RAM. -/
theorem zext16_toNat (z : Byte) : (zext16 z).toNat = z.toNat := by
  revert z; decide

theorem zext16_ram (z : Byte) : (zext16 z).toNat < 0x2000 := by
  rw [zext16_toNat]; have := z.isLt; omega

end Sys2Proof.Machine
end

