-- ==== Sys2Proof/Laws/Bus.lean ====
section
/-!
SUPPORT. What bus cycles can do. `BusRun` says once what any piece of the machine does to the bus: a
sequence of read cycles, write cycles at allowed addresses, idle cycles and changes of the DMA flags
and interrupt latches. A fact that each of these keeps holds after any instruction.
-/

namespace Sys2Proof.Machine

/-! ## The parts of a cycle -/

section CatchUp
variable (b : Bus)

theorem catchUp_mem : (catchUp b).mem = b.mem := by
  unfold catchUp requestDmc; split <;> [rfl; skip]; split <;> rfl
theorem catchUp_trace : (catchUp b).trace = b.trace := by
  unfold catchUp requestDmc; split <;> [rfl; skip]; split <;> rfl
theorem catchUp_cycle : (catchUp b).cycle = b.cycle := by
  unfold catchUp requestDmc; split <;> [rfl; skip]; split <;> rfl
theorem catchUp_nmi : (catchUp b).nmi = b.nmi := by
  unfold catchUp requestDmc; split <;> [rfl; skip]; split <;> rfl
theorem catchUp_prevNmi : (catchUp b).prevNmi = b.prevNmi := by
  unfold catchUp requestDmc; split <;> [rfl; skip]; split <;> rfl
theorem catchUp_runIrq : (catchUp b).runIrq = b.runIrq := by
  unfold catchUp requestDmc; split <;> [rfl; skip]; split <;> rfl
theorem catchUp_oamDma : (catchUp b).oamDma = b.oamDma := by
  unfold catchUp requestDmc; split <;> [rfl; skip]; split <;> rfl
theorem catchUp_oamDmaPage : (catchUp b).oamDmaPage = b.oamDmaPage := by
  unfold catchUp requestDmc; split <;> [rfl; skip]; split <;> rfl
theorem catchUp_nmiLinePrev : (catchUp b).nmiLinePrev = b.nmiLinePrev := by
  unfold catchUp requestDmc; split <;> [rfl; skip]; split <;> rfl
theorem catchUp_inputs : (catchUp b).inputs = b.inputs.tail := by
  unfold catchUp requestDmc; split <;> [simp_all; skip]; split <;> simp_all

end CatchUp

section BeginCycle
variable (b : Bus)

@[simp] theorem beginCycle_mem : (beginCycle b).mem = b.mem := catchUp_mem _
@[simp] theorem beginCycle_trace : (beginCycle b).trace = b.trace := catchUp_trace _
@[simp] theorem beginCycle_cycle : (beginCycle b).cycle = b.cycle + 1 := catchUp_cycle _
@[simp] theorem beginCycle_nmi : (beginCycle b).nmi = b.nmi := catchUp_nmi _
@[simp] theorem beginCycle_prevNmi : (beginCycle b).prevNmi = b.prevNmi := catchUp_prevNmi _
@[simp] theorem beginCycle_runIrq : (beginCycle b).runIrq = b.runIrq := catchUp_runIrq _
@[simp] theorem beginCycle_oamDma : (beginCycle b).oamDma = b.oamDma := catchUp_oamDma _
@[simp] theorem beginCycle_oamDmaPage : (beginCycle b).oamDmaPage = b.oamDmaPage :=
  catchUp_oamDmaPage _
@[simp] theorem beginCycle_nmiLinePrev : (beginCycle b).nmiLinePrev = b.nmiLinePrev :=
  catchUp_nmiLinePrev _
@[simp] theorem beginCycle_inputs : (beginCycle b).inputs = b.inputs.tail := catchUp_inputs _

end BeginCycle

/-- A device read changes nothing but the PPU port and the count of draws. -/
theorem envByte_frame (b : Bus) : (envByte b).2 = { b with draws := (envByte b).2.draws } := by
  unfold envByte; split <;> rfl

theorem ppuRead_frame (reg : Nat) (b : Bus) :
    (ppuRead reg b).2 = { b with ppu := (ppuRead reg b).2.ppu, draws := (ppuRead reg b).2.draws } := by
  unfold ppuRead envByte
  split <;> (try split) <;> (try split) <;> rfl

theorem busRead_frame (addr : Word) (b : Bus) :
    (busRead addr b).2 =
      { b with ppu := (busRead addr b).2.ppu, draws := (busRead addr b).2.draws } := by
  unfold busRead
  split
  · rfl
  · exact ppuRead_frame _ b
  · unfold envByte; split <;> rfl
  · unfold envByte; split <;> rfl
  · split
    · rfl
    · split
      · unfold envByte; split <;> rfl
      · rfl
      · rfl

/-- What a device write can change: memory, the OAM DMA request, the PPU port. -/
theorem busWrite_frame (addr : Word) (v : Byte) (b : Bus) :
    busWrite addr v b =
      { b with mem := (busWrite addr v b).mem, oamDma := (busWrite addr v b).oamDma,
               oamDmaPage := (busWrite addr v b).oamDmaPage, ppu := (busWrite addr v b).ppu } := by
  unfold busWrite ppuWrite
  split
  · rfl
  · split
    · split <;> rfl
    · rfl
  · split <;> rfl
  · rfl
  · split <;> rfl

theorem busWrite_mem_of_memKey_none {addr : Word} (h : memKey addr = none) (v : Byte) (b : Bus) :
    (busWrite addr v b).mem = b.mem := by
  unfold busWrite ppuWrite
  unfold memKey at h
  split <;> simp_all
  · split <;> [split; skip] <;> rfl
  · split <;> rfl

/-! ## The three kinds of cycle, field by field -/

section Cycles
variable (i : Bool) (addr : Word) (v : Byte) (b : Bus)

@[simp] theorem readCycle_mem : (b.readCycle i addr).2.mem = b.mem := by
  simp only [Bus.readCycle, endCycle_mem]
  rw [busRead_frame]; simp
@[simp] theorem readCycle_trace :
    (b.readCycle i addr).2.trace = .read addr (b.readCycle i addr).1 :: b.trace := by
  simp only [Bus.readCycle, endCycle_trace]
  rw [busRead_frame]; simp
@[simp] theorem readCycle_cycle : (b.readCycle i addr).2.cycle = b.cycle + 1 := by
  simp only [Bus.readCycle, endCycle_cycle]
  rw [busRead_frame]; simp
@[simp] theorem readCycle_inputs : (b.readCycle i addr).2.inputs = b.inputs.tail := by
  simp only [Bus.readCycle, endCycle_inputs]
  rw [busRead_frame]; simp
@[simp] theorem readCycle_oamDma : (b.readCycle i addr).2.oamDma = b.oamDma := by
  simp only [Bus.readCycle, endCycle_oamDma]
  rw [busRead_frame]; simp
@[simp] theorem readCycle_oamDmaPage : (b.readCycle i addr).2.oamDmaPage = b.oamDmaPage := by
  simp only [Bus.readCycle, endCycle_oamDmaPage]
  rw [busRead_frame]; simp
@[simp] theorem readCycle_prevNmi : (b.readCycle i addr).2.prevNmi = b.nmi := by
  simp only [Bus.readCycle, endCycle_prevNmi]
  rw [busRead_frame]; simp
@[simp] theorem readCycle_prevRunIrq : (b.readCycle i addr).2.prevRunIrq = b.runIrq := by
  simp only [Bus.readCycle, endCycle_prevRunIrq]
  rw [busRead_frame]; simp
theorem readCycle_runIrq :
    (b.readCycle i addr).2.runIrq = (anyIrq (beginCycle b).irqLines && !i) := by
  simp only [Bus.readCycle, endCycle_runIrq]
  rw [busRead_frame]

@[simp] theorem writeCycle_trace : (b.writeCycle i addr v).trace = .write addr v :: b.trace := by
  simp only [Bus.writeCycle, endCycle_trace]
  rw [busWrite_frame]; simp
@[simp] theorem writeCycle_cycle : (b.writeCycle i addr v).cycle = b.cycle + 1 := by
  simp only [Bus.writeCycle, endCycle_cycle]
  rw [busWrite_frame]; simp
@[simp] theorem writeCycle_inputs : (b.writeCycle i addr v).inputs = b.inputs.tail := by
  simp only [Bus.writeCycle, endCycle_inputs]
  rw [busWrite_frame]; simp
@[simp] theorem writeCycle_prevNmi : (b.writeCycle i addr v).prevNmi = b.nmi := by
  simp only [Bus.writeCycle, endCycle_prevNmi]
  rw [busWrite_frame]; simp
@[simp] theorem writeCycle_prevRunIrq : (b.writeCycle i addr v).prevRunIrq = b.runIrq := by
  simp only [Bus.writeCycle, endCycle_prevRunIrq]
  rw [busWrite_frame]; simp
theorem writeCycle_mem : (b.writeCycle i addr v).mem = (busWrite addr v (beginCycle b)).mem := rfl

@[simp] theorem idleCycle_mem : (b.idleCycle i).mem = b.mem := by
  simp [Bus.idleCycle]
@[simp] theorem idleCycle_trace : (b.idleCycle i).trace = .idle :: b.trace := by
  simp [Bus.idleCycle]
@[simp] theorem idleCycle_cycle : (b.idleCycle i).cycle = b.cycle + 1 := by
  simp [Bus.idleCycle]
@[simp] theorem idleCycle_inputs : (b.idleCycle i).inputs = b.inputs.tail := by
  simp [Bus.idleCycle]
@[simp] theorem idleCycle_oamDma : (b.idleCycle i).oamDma = b.oamDma := by
  simp [Bus.idleCycle]

end Cycles

/-- A write in internal RAM stores the byte there. -/
theorem writeCycle_mem_ram (i : Bool) {addr : Word} (v : Byte) (b : Bus) (h : addr.toNat < 0x2000) :
    (b.writeCycle i addr v).mem = Memory.set b.mem (addr.toNat % 0x800) v := by
  rw [writeCycle_mem, busWrite, busTarget_ram h]; simp

/-- A read in internal RAM yields the byte there. -/
theorem readCycle_val_ram (i : Bool) {addr : Word} (b : Bus) (h : addr.toNat < 0x2000) :
    (b.readCycle i addr).1 = Memory.byteAt b.mem (addr.toNat % 0x800) := by
  simp [Bus.readCycle, busRead, busTarget_ram h]

/-- A write stores nothing at a key its address does not name. -/
theorem writeCycle_byteAt_ne (i : Bool) {addr : Word} (v : Byte) (b : Bus) {k : Nat}
    (h : memKey addr ≠ some k) :
    Memory.byteAt (b.writeCycle i addr v).mem k = Memory.byteAt b.mem k := by
  rw [writeCycle_mem]
  unfold busWrite
  unfold memKey at h
  split <;> simp_all
  · exact Memory.byteAt_set_ne _ _ (fun h' => h h'.symm)
  · unfold ppuWrite; split <;> [split; skip] <;> simp
  · split <;> simp
  · split
    · simp
    · simp
    · simpa using Memory.byteAt_set_ne _ _ (fun h' => h h'.symm)

/-! ## Runs of bus cycles -/

/-- `BusRun W b c`: the bus went from `b` to `c` by cycles whose writes are at addresses in `W`, and by
changes of the DMA flags and the interrupt latches between cycles. -/
inductive BusRun (W : Word → Prop) (b : Bus) : Bus → Prop
  | refl : BusRun W b b
  | read {c : Bus} (h : BusRun W b c) (i : Bool) (addr : Word) : BusRun W b (c.readCycle i addr).2
  | write {c : Bus} (h : BusRun W b c) (i : Bool) {addr : Word} (v : Byte) (hw : W addr) :
      BusRun W b (c.writeCycle i addr v)
  | idle {c : Bus} (h : BusRun W b c) (i : Bool) : BusRun W b (c.idleCycle i)
  | dma {c : Bus} (h : BusRun W b c) (oam dmc halt dummy : Bool) (buffer : Option Byte) :
      BusRun W b { c with oamDma := oam, dmcDma := dmc, halt := halt, dummyRead := dummy,
                          dmcBuffer := buffer }
  | latches {c : Bus} (h : BusRun W b c) (nmi prevNmi keep : Bool) :
      BusRun W b { c with nmi := nmi, prevNmi := prevNmi, runIrq := c.runIrq && keep }

/-- The packaged induction: what every elementary change keeps, a run keeps. -/
theorem BusRun.preserves {W : Word → Prop} {b c : Bus} {P : Bus → Prop} (h : BusRun W b c)
    (hb : P b)
    (hread : ∀ c i addr, P c → P (Bus.readCycle i addr c).2)
    (hwrite : ∀ c i addr v, W addr → P c → P (Bus.writeCycle i addr v c))
    (hidle : ∀ c i, P c → P (Bus.idleCycle i c))
    (hdma : ∀ (c : Bus) oam dmc halt dummy buffer, P c →
      P { c with oamDma := oam, dmcDma := dmc, halt := halt, dummyRead := dummy,
                 dmcBuffer := buffer })
    (hlatch : ∀ (c : Bus) nmi prevNmi keep, P c →
      P { c with nmi := nmi, prevNmi := prevNmi, runIrq := c.runIrq && keep }) : P c := by
  induction h with
  | refl => exact hb
  | read _ i addr ih => exact hread _ i addr ih
  | write _ i v hw ih => exact hwrite _ i _ v hw ih
  | idle _ i ih => exact hidle _ i ih
  | dma _ oam dmc halt dummy buffer ih => exact hdma _ oam dmc halt dummy buffer ih
  | latches _ nmi prevNmi keep ih => exact hlatch _ nmi prevNmi keep ih

theorem BusRun.mono {W W' : Word → Prop} {b c : Bus} (h : BusRun W b c) (hW : ∀ a, W a → W' a) :
    BusRun W' b c := by
  induction h with
  | refl => exact .refl
  | read _ i addr ih => exact ih.read i addr
  | write _ i v hw ih => exact ih.write i v (hW _ hw)
  | idle _ i ih => exact ih.idle i
  | dma _ oam dmc halt dummy buffer ih => exact ih.dma oam dmc halt dummy buffer
  | latches _ nmi prevNmi keep ih => exact ih.latches nmi prevNmi keep

theorem BusRun.trans {W : Word → Prop} {b c d : Bus} (h : BusRun W b c) (h' : BusRun W c d) :
    BusRun W b d := by
  induction h' with
  | refl => exact h
  | read _ i addr ih => exact ih.read i addr
  | write _ i v hw ih => exact ih.write i v hw
  | idle _ i ih => exact ih.idle i
  | dma _ oam dmc halt dummy buffer ih => exact ih.dma oam dmc halt dummy buffer
  | latches _ nmi prevNmi keep ih => exact ih.latches nmi prevNmi keep

/-- The DMA unit writes to 0x2004 only (60_exceptions.md R330, R332). -/
def DmaWrites (addr : Word) : Prop := addr = 0x2004#16

/-- Memory stays as it is where the allowed writes reach no memory. -/
theorem BusRun.mem_eq {W : Word → Prop} {b c : Bus} (h : BusRun W b c)
    (hW : ∀ a, W a → memKey a = none) : c.mem = b.mem :=
  h.preserves (P := fun d => d.mem = b.mem) rfl (fun _ _ _ h => by simpa using h)
    (fun d i addr v hw h => by
      rw [writeCycle_mem, busWrite_mem_of_memKey_none (hW _ hw)]; simpa using h)
    (fun _ _ h => by simpa using h) (fun _ _ _ _ _ _ h => h) (fun _ _ _ _ h => h)

theorem dmaWrites_memKey (a : Word) (h : DmaWrites a) : memKey a = none := by
  subst h; decide

/-! ## DMA and reads as runs -/

theorem dmaPayDebt_run {W : Word → Prop} {b c : Bus} (h : BusRun W b c) :
    BusRun W b (dmaPayDebt c) := by
  unfold dmaPayDebt
  split
  · exact h.dma c.oamDma c.dmcDma false c.dummyRead c.dmcBuffer
  · split
    · exact h.dma c.oamDma c.dmcDma c.halt false c.dmcBuffer
    · exact h

theorem dmaWait_run {W : Word → Prop} {b c : Bus} (h : BusRun W b c) (i skip : Bool) (addr : Word) :
    BusRun W b (dmaWait i skip addr c) := by
  unfold dmaWait
  split
  · exact h.idle i
  · exact h.read i addr

theorem dmaLoop_run (i skip : Bool) (addr : Word) (fuel : Nat) (idx : Byte) (n : Nat) (latch : Byte)
    {b c : Bus} (h : BusRun DmaWrites b c) :
    BusRun DmaWrites b (dmaLoop i skip addr fuel idx n latch c) := by
  induction fuel generalizing idx n latch c with
  | zero => exact h
  | succ fuel ih =>
    have hd := dmaPayDebt_run h
    simp only [dmaLoop]
    split
    · split
      · split
        · apply ih
          have hr := hd.read i (dmaPayDebt c).dmcDmaAddr
          exact hr.dma _ false _ _ (some _)
        · split
          · exact ih _ _ _ (hd.read i _)
          · exact ih _ _ _ (dmaWait_run hd i skip addr)
      · split
        · apply ih
          have hw := hd.write i (addr := 0x2004#16) latch rfl
          split
          · exact hw.dma false _ _ _ _
          · exact hw
        · exact ih _ _ _ (dmaWait_run hd i skip addr)
    · exact h

theorem runDma_run (i : Bool) (addr : Word) (b : Bus) : BusRun DmaWrites b (runDma i addr b) := by
  unfold runDma
  have h := (BusRun.refl (W := DmaWrites) (b := b)).read i addr
  exact dmaLoop_run _ _ _ _ _ _ _ (h.dma _ _ false _ _)

/-- A CPU read is a run whose only writes are the DMA unit's. -/
theorem read_run (i : Bool) (addr : Word) (b : Bus) : BusRun DmaWrites b (b.read i addr).2 := by
  unfold Bus.read
  split
  · exact (runDma_run i addr b).read i addr
  · exact BusRun.refl.read i addr

/-! ## What a read says -/

/-- A read leaves memory alone, DMA or not. -/
@[simp] theorem read_mem (i : Bool) (addr : Word) (b : Bus) : (b.read i addr).2.mem = b.mem :=
  (read_run i addr b).mem_eq dmaWrites_memKey

/-- The last bus cycle of a read is the read itself. -/
theorem read_trace (i : Bool) (addr : Word) (b : Bus) :
    ∃ rest, (b.read i addr).2.trace = .read addr (b.read i addr).1 :: rest := by
  unfold Bus.read
  exact ⟨_, readCycle_trace _ _ _⟩

/-- A read in internal RAM yields the byte there, DMA or not (20_memory.md R63). -/
theorem read_val_ram (i : Bool) {addr : Word} (b : Bus) (h : addr.toNat < 0x2000) :
    (b.read i addr).1 = Memory.byteAt b.mem (addr.toNat % 0x800) := by
  unfold Bus.read
  rw [readCycle_val_ram _ _ h]
  split
  · rw [(runDma_run i addr b).mem_eq dmaWrites_memKey]
  · rfl

/-- Without DMA a read is one cycle. -/
theorem read_eq_readCycle (i : Bool) (addr : Word) (b : Bus) (h : b.dmaPending = false) :
    b.read i addr = b.readCycle i addr := by
  simp [Bus.read, h]

/-! ## Plain cartridges -/

/-- The environment drives no data and moves no window in the cycles to come. -/
def Bus.plain (b : Bus) : Prop := ∀ inp ∈ b.inputs, inp.data = none ∧ inp.windows = none

theorem catchUp_plain {b : Bus} (h : b.plain) :
    (catchUp b).plain ∧ (catchUp b).windows = b.windows ∧ (catchUp b).dataIn = none := by
  unfold catchUp requestDmc
  split
  · exact ⟨by intro inp hi; exact h inp hi, rfl, rfl⟩
  · rename_i inp rest heq
    have h0 := h inp (by rw [heq]; simp)
    have hr : ∀ x ∈ rest, x.data = none ∧ x.windows = none :=
      fun x hx => h x (by rw [heq]; exact List.mem_cons_of_mem _ hx)
    split <;> exact ⟨hr, by simp [h0.2], by simp [h0.1]⟩

/-- Plainness and the windows survive any run. -/
theorem BusRun.plain {W : Word → Prop} {b c : Bus} (h : BusRun W b c) (hp : b.plain) :
    c.plain ∧ c.windows = b.windows := by
  refine h.preserves (P := fun d => d.plain ∧ d.windows = b.windows) ⟨hp, rfl⟩ ?_ ?_ ?_ ?_ ?_
  · intro d i addr ⟨h1, h2⟩
    have hc := catchUp_plain (b := { d with cycle := d.cycle + 1 }) h1
    simp only [Bus.readCycle]
    refine ⟨?_, ?_⟩
    · show ∀ inp ∈ (busRead addr (beginCycle d)).2.inputs, _
      rw [busRead_frame]; exact hc.1
    · show (busRead addr (beginCycle d)).2.windows = _
      rw [busRead_frame]; exact hc.2.1.trans h2
  · intro d i addr v _ ⟨h1, h2⟩
    have hc := catchUp_plain (b := { d with cycle := d.cycle + 1 }) h1
    simp only [Bus.writeCycle]
    refine ⟨?_, ?_⟩
    · show ∀ inp ∈ (busWrite addr v (beginCycle d)).inputs, _
      rw [busWrite_frame]; exact hc.1
    · show (busWrite addr v (beginCycle d)).windows = _
      rw [busWrite_frame]; exact hc.2.1.trans h2
  · intro d i ⟨h1, h2⟩
    have hc := catchUp_plain (b := { d with cycle := d.cycle + 1 }) h1
    exact ⟨hc.1, hc.2.1.trans h2⟩
  · intro d _ _ _ _ _ h; exact h
  · intro d _ _ _ h; exact h

theorem readCycle_val_cart (i : Bool) {addr : Word} (b : Bus) (h : 0x4020 ≤ addr.toNat)
    (hp : b.plain) (hw : windowAccess b.windows addr.toNat ≠ .none) :
    (b.readCycle i addr).1 = Memory.byteAt b.mem addr.toNat := by
  have hc := catchUp_plain (b := { b with cycle := b.cycle + 1 }) hp
  have hw' : windowAccess (beginCycle b).windows addr.toNat ≠ .none := by
    show windowAccess (catchUp _).windows _ ≠ _
    rw [hc.2.1]; exact hw
  have hd : (beginCycle b).dataIn = none := hc.2.2
  simp only [Bus.readCycle, busRead, busTarget_cart h, hd]
  cases hacc : windowAccess (beginCycle b).windows addr.toNat <;> simp_all

/-- A read of plain cartridge memory yields the byte the cartridge shows, DMA or not. -/
theorem read_val_cart (i : Bool) {addr : Word} (b : Bus) (h : 0x4020 ≤ addr.toNat) (hp : b.plain)
    (hw : windowAccess b.windows addr.toNat ≠ .none) :
    (b.read i addr).1 = Memory.byteAt b.mem addr.toNat := by
  unfold Bus.read
  split
  · have hr := runDma_run i addr b
    have hpl := hr.plain hp
    rw [readCycle_val_cart i _ h hpl.1 (by rw [hpl.2]; exact hw), hr.mem_eq dmaWrites_memKey]
  · exact readCycle_val_cart i b h hp hw

/-! ## Without DMA -/

/-- No DMA is pending, and none is requested in the cycles to come. -/
def Bus.noDma (b : Bus) : Prop := b.dmaPending = false ∧ ∀ inp ∈ b.inputs, inp.dmcReq = none

theorem beginCycle_dma {b : Bus} (h : ∀ inp ∈ b.inputs, inp.dmcReq = none) :
    (beginCycle b).halt = b.halt ∧ (beginCycle b).dmcDma = b.dmcDma ∧
    (beginCycle b).dummyRead = b.dummyRead ∧ (beginCycle b).dmcDmaAddr = b.dmcDmaAddr := by
  unfold beginCycle catchUp
  dsimp only
  split
  · exact ⟨rfl, rfl, rfl, rfl⟩
  · rename_i inp rest heq
    have h0 := h inp (by rw [heq]; simp)
    rw [h0]
    exact ⟨rfl, rfl, rfl, rfl⟩

theorem readCycle_dma (i : Bool) (addr : Word) {b : Bus} (h : ∀ inp ∈ b.inputs, inp.dmcReq = none) :
    (b.readCycle i addr).2.halt = b.halt ∧ (b.readCycle i addr).2.dmcDma = b.dmcDma ∧
    (b.readCycle i addr).2.dummyRead = b.dummyRead ∧
    (b.readCycle i addr).2.dmcDmaAddr = b.dmcDmaAddr := by
  have h1 := beginCycle_dma h
  unfold Bus.readCycle
  dsimp only
  rw [busRead_frame]
  exact h1

theorem writeCycle_dma (i : Bool) (addr : Word) (v : Byte) {b : Bus}
    (h : ∀ inp ∈ b.inputs, inp.dmcReq = none) :
    (b.writeCycle i addr v).halt = b.halt ∧ (b.writeCycle i addr v).dmcDma = b.dmcDma ∧
    (b.writeCycle i addr v).dummyRead = b.dummyRead ∧
    (b.writeCycle i addr v).dmcDmaAddr = b.dmcDmaAddr := by
  have h1 := beginCycle_dma h
  unfold Bus.writeCycle
  dsimp only
  rw [busWrite_frame]
  exact h1

theorem idleCycle_dma (i : Bool) {b : Bus} (h : ∀ inp ∈ b.inputs, inp.dmcReq = none) :
    (b.idleCycle i).halt = b.halt ∧ (b.idleCycle i).dmcDma = b.dmcDma ∧
    (b.idleCycle i).dummyRead = b.dummyRead ∧ (b.idleCycle i).dmcDmaAddr = b.dmcDmaAddr :=
  beginCycle_dma h

theorem noDma_readCycle (i : Bool) (addr : Word) {b : Bus} (h : b.noDma) :
    (b.readCycle i addr).2.noDma := by
  obtain ⟨h1, h2, -⟩ := readCycle_dma i addr h.2
  refine ⟨?_, by rw [readCycle_inputs]; exact fun inp hi => h.2 inp (List.mem_of_mem_tail hi)⟩
  rw [Bus.dmaPending, h1, h2, readCycle_oamDma]
  exact h.1

/-- A read without DMA is one read cycle, after which there still is none. -/
theorem noDma_read (i : Bool) (addr : Word) {b : Bus} (h : b.noDma) :
    b.read i addr = b.readCycle i addr ∧ (b.readCycle i addr).2.noDma :=
  ⟨read_eq_readCycle i addr b h.1, noDma_readCycle i addr h⟩

/-- A write anywhere but to 0x4014 requests no DMA. -/
theorem noDma_writeCycle (i : Bool) {addr : Word} (v : Byte) {b : Bus} (h : b.noDma)
    (ha : addr ≠ 0x4014#16) : (b.writeCycle i addr v).noDma := by
  obtain ⟨h1, h2, -⟩ := writeCycle_dma i addr v h.2
  have h3 : (b.writeCycle i addr v).oamDma = b.oamDma := by
    show (busWrite addr v (beginCycle b)).oamDma = _
    unfold busWrite ppuWrite
    split <;> (try split) <;> (try split) <;> simp_all
  refine ⟨?_, by rw [writeCycle_inputs]; exact fun inp hi => h.2 inp (List.mem_of_mem_tail hi)⟩
  rw [Bus.dmaPending, h1, h2, h3]
  exact h.1

/-! ## Memory's form, and the parts of a reset -/

/-- A write keeps memory in canonical form. -/
theorem busWrite_wf (addr : Word) (v : Byte) (b : Bus) (h : Memory.wf b.mem = true) :
    Memory.wf (busWrite addr v b).mem = true := by
  by_cases hk : memKey addr = none
  · rw [busWrite_mem_of_memKey_none hk]; exact h
  · obtain ⟨k, hk'⟩ := Option.ne_none_iff_exists'.1 hk
    have hok := memKey_keyOk hk'
    unfold memKey at hk'
    unfold busWrite ppuWrite
    split <;> simp_all
    · exact Memory.wf_set _ hok h
    · split
      · exact h
      · exact h
      · exact Memory.wf_set _ hok h

/-- What DMA owes is all that a payment changes. -/
theorem dmaPayDebt_frame (b : Bus) :
    dmaPayDebt b = { b with halt := (dmaPayDebt b).halt, dummyRead := (dmaPayDebt b).dummyRead } := by
  unfold dmaPayDebt
  split <;> [rfl; skip]
  split <;> rfl

theorem idleCycles_run (i : Bool) (n : Nat) (b : Bus) :
    BusRun (fun _ => True) b (idleCycles i n b) := by
  induction n generalizing b with
  | zero => exact .refl
  | succ n ih => exact (BusRun.refl.idle i).trans (ih _)

/-- The reset's vector read changes nothing but the PPU port and the count of draws. -/
theorem vectorRead_frame (addr : Word) (b : Bus) :
    (vectorRead addr b).2 =
      { b with ppu := (vectorRead addr b).2.ppu, draws := (vectorRead addr b).2.draws } := by
  unfold vectorRead
  dsimp only
  rw [busRead_frame (addr + 1), busRead_frame addr]

end Sys2Proof.Machine
end

