-- ==== Sys2Proof/Laws/Exec.lean ====
section
/-!
SUPPORT. `exec` as the decode table says it (40_addressing_modes.md R130): the routine of the entry's
mode, then the routine of its operation. With `exec_table` a proof about all 256 instructions is a
proof about 13 modes and a handful of kinds.
-/

namespace Sys2Proof.Machine

/-! ## Words and bytes -/

@[simp] theorem lo_zext16 (b : Byte) : lo (zext16 b) = b := by revert b; decide

theorem mk16_toNat (h l : Byte) : (mk16 h l).toNat = 256 * h.toNat + l.toNat := by
  unfold mk16
  rw [BitVec.toNat_append, ← Nat.shiftLeft_add_eq_or_of_lt l.isLt, Nat.shiftLeft_eq]
  omega

@[simp] theorem lo_mk16 (h l : Byte) : lo (mk16 h l) = l := by
  apply BitVec.eq_of_toNat_eq
  simp only [lo, BitVec.extractLsb'_toNat, mk16_toNat]
  have := l.isLt
  omega

@[simp] theorem hi_mk16 (h l : Byte) : hi (mk16 h l) = h := by
  apply BitVec.eq_of_toNat_eq
  simp only [hi, BitVec.extractLsb'_toNat, mk16_toNat, Nat.shiftRight_eq_div_pow]
  have := h.isLt
  have := l.isLt
  omega

@[simp] theorem mk16_hi_lo (w : Word) : mk16 (hi w) (lo w) = w := by
  apply BitVec.eq_of_getLsbD_eq
  intro k hk
  simp only [hi, lo, mk16, BitVec.getLsbD_extractLsb', BitVec.getLsbD_append]
  by_cases h : k < 8
  · simp [h]
  · have : k - 8 < 8 := by omega
    have h2 : 8 + (k - 8) = k := by omega
    simp [h, this, h2]

@[simp] theorem hi_zext16 (b : Byte) : hi (zext16 b) = 0#8 := by revert b; decide

/-! ## The two halves of an instruction -/

/-- The routine of an addressing mode, by the decode-table entry. -/
def modeRun (e : Entry) (operand : Word) (s : State) : State :=
  match e.mode with
  | .IMP => modeImp s
  | .ACC => modeAcc s
  | .IMM => modeImm (lo operand) s
  | .ZP0 => modeZp0 (lo operand) s
  | .ZPX => modeZpx (lo operand) s
  | .ZPY => modeZpy (lo operand) s
  | .REL => modeRel (lo operand) s
  | .IDX => modeIdx (lo operand) s
  | .IDY => modeIdy (lo operand) e.kind s
  | .ABS => modeAbs operand s
  | .ABX => modeAbx operand e.kind s
  | .ABY => modeAby operand e.kind s
  | .IND => modeInd operand s

/-- The effect of a read-kind operation. -/
def readEffect (e : Entry) : Byte → State → State :=
  match e.operation with
  | .LDA => ldaEffect
  | .LDX => ldxEffect
  | .LDY => ldyEffect
  | .ADC => adcEffect
  | .SBC => sbcEffect
  | .AND => andEffect
  | .ORA => oraEffect
  | .EOR => eorEffect
  | .BIT => bitEffect
  | .CMP => cmpEffect
  | .CPX => cpxEffect
  | .CPY => cpyEffect
  | .LAX => if e.mode = .IMM then lxaEffect else laxEffect
  | .ANC => ancEffect
  | .ALR => alrEffect
  | .ARR => arrEffect
  | .AXS => axsEffect
  | .XAA => xaaEffect
  | .LAS => lasEffect
  | _ => nopEffect

/-- The routine of a store-kind operation. -/
def storeRun (o : Operation) : State → State :=
  match o with
  | .STA => storeOp staValue
  | .STX => storeOp stxValue
  | .STY => storeOp styValue
  | .SAX => storeOp saxValue
  | .AHX => ahxOp
  | .TAS => tasOp
  | .SHX => shxOp
  | _ => shyOp

/-- The new-value function of an operation that modifies its operand. -/
def modifyFn (o : Operation) : Byte → State → Byte × State :=
  match o with
  | .ASL => aslFn
  | .LSR => lsrFn
  | .ROL => rolFn
  | .ROR => rorFn
  | .INC => incFn
  | .DEC => decFn
  | .SLO => sloFn
  | .RLA => rlaFn
  | .SRE => sreFn
  | .RRA => rraFn
  | .DCP => dcpFn
  | _ => isbFn

/-- The routine of an implied operation. -/
def impliedRun (o : Operation) : State → State :=
  match o with
  | .TAX => taxOp
  | .TAY => tayOp
  | .TXA => txaOp
  | .TYA => tyaOp
  | .TSX => tsxOp
  | .TXS => txsOp
  | .INX => inxOp
  | .INY => inyOp
  | .DEX => dexOp
  | .DEY => deyOp
  | .RTS => rtsOp
  | .RTI => rtiOp
  | .PHA => phaOp
  | .PHP => phpOp
  | .PLA => plaOp
  | .PLP => plpOp
  | .CLC => clcOp
  | .SEC => secOp
  | .CLI => cliOp
  | .SEI => seiOp
  | .CLD => cldOp
  | .SED => sedOp
  | .CLV => clvOp
  | .XXX => xxxOp
  | _ => nopOp

/-- The routine of an operation, by the decode-table entry. -/
def opRun (e : Entry) : State → State :=
  match e.kind with
  | .read => if e.mode = .IMM then immOp (readEffect e) else readOp (readEffect e)
  | .store => storeRun e.operation
  | .rmw => rmwOp (modifyFn e.operation)
  | .acc => accOp (modifyFn e.operation)
  | .implied => impliedRun e.operation
  | .branch => branch (branchTaken e.operation)
  | .jump => if e.operation = .JSR then jsrOp else jmpOp
  | .brk => brkOp

/-- `modeRun` of a two-byte instruction, whose operand word is the operand byte with zeros above. -/
def modeByte (e : Entry) (b : Byte) (s : State) : State :=
  match e.mode with
  | .IMP => modeImp s
  | .ACC => modeAcc s
  | .IMM => modeImm b s
  | .ZP0 => modeZp0 b s
  | .ZPX => modeZpx b s
  | .ZPY => modeZpy b s
  | .REL => modeRel b s
  | .IDX => modeIdx b s
  | .IDY => modeIdy b e.kind s
  | .ABS => modeAbs (zext16 b) s
  | .ABX => modeAbx (zext16 b) e.kind s
  | .ABY => modeAby (zext16 b) e.kind s
  | .IND => modeInd (zext16 b) s

theorem modeRun_zext16 (e : Entry) (b : Byte) (s : State) :
    modeRun e (zext16 b) s = modeByte e b s := by
  simp only [modeRun, modeByte, lo_zext16]

/-- What `exec_table` says of the instruction with a given opcode and operand word. -/
def ExecTable (opcode : Byte) (operand : Word) (r : State → Result) : Prop :=
  ∀ s, r s = .next (opRun (table opcode) (modeRun (table opcode) operand s))

theorem execTable_byte {opcode b : Byte} {r : State → Result}
    (h : ∀ s, r s = .next (opRun (table opcode) (modeByte (table opcode) b s))) :
    ExecTable opcode (zext16 b) r := by
  intro s
  rw [modeRun_zext16]
  exact h s

/-- Every meaning is its mode routine followed by its operation routine. -/
theorem execTable_all : ∀ i : Instr, ExecTable i.opcode i.operand (exec i)
  | .brk _ => execTable_byte (opcode := 0x00#8) fun _ => rfl
  | .oraIdx _ => execTable_byte (opcode := 0x01#8) fun _ => rfl
  | .sloIdx _ => execTable_byte (opcode := 0x03#8) fun _ => rfl
  | .nopZp0_04 _ => execTable_byte (opcode := 0x04#8) fun _ => rfl
  | .oraZp0 _ => execTable_byte (opcode := 0x05#8) fun _ => rfl
  | .aslZp0 _ => execTable_byte (opcode := 0x06#8) fun _ => rfl
  | .sloZp0 _ => execTable_byte (opcode := 0x07#8) fun _ => rfl
  | .oraImm _ => execTable_byte (opcode := 0x09#8) fun _ => rfl
  | .ancImm_0B _ => execTable_byte (opcode := 0x0B#8) fun _ => rfl
  | .nopAbs v => (fun _ => rfl : ExecTable 0x0C#8 v _)
  | .oraAbs v => (fun _ => rfl : ExecTable 0x0D#8 v _)
  | .aslAbs v => (fun _ => rfl : ExecTable 0x0E#8 v _)
  | .sloAbs v => (fun _ => rfl : ExecTable 0x0F#8 v _)
  | .bpl _ => execTable_byte (opcode := 0x10#8) fun _ => rfl
  | .oraIdy _ => execTable_byte (opcode := 0x11#8) fun _ => rfl
  | .sloIdy _ => execTable_byte (opcode := 0x13#8) fun _ => rfl
  | .nopZpx_14 _ => execTable_byte (opcode := 0x14#8) fun _ => rfl
  | .oraZpx _ => execTable_byte (opcode := 0x15#8) fun _ => rfl
  | .aslZpx _ => execTable_byte (opcode := 0x16#8) fun _ => rfl
  | .sloZpx _ => execTable_byte (opcode := 0x17#8) fun _ => rfl
  | .oraAby v => (fun _ => rfl : ExecTable 0x19#8 v _)
  | .sloAby v => (fun _ => rfl : ExecTable 0x1B#8 v _)
  | .nopAbx_1C v => (fun _ => rfl : ExecTable 0x1C#8 v _)
  | .oraAbx v => (fun _ => rfl : ExecTable 0x1D#8 v _)
  | .aslAbx v => (fun _ => rfl : ExecTable 0x1E#8 v _)
  | .sloAbx v => (fun _ => rfl : ExecTable 0x1F#8 v _)
  | .jsr v => (fun _ => rfl : ExecTable 0x20#8 v _)
  | .andIdx _ => execTable_byte (opcode := 0x21#8) fun _ => rfl
  | .rlaIdx _ => execTable_byte (opcode := 0x23#8) fun _ => rfl
  | .bitZp0 _ => execTable_byte (opcode := 0x24#8) fun _ => rfl
  | .andZp0 _ => execTable_byte (opcode := 0x25#8) fun _ => rfl
  | .rolZp0 _ => execTable_byte (opcode := 0x26#8) fun _ => rfl
  | .rlaZp0 _ => execTable_byte (opcode := 0x27#8) fun _ => rfl
  | .andImm _ => execTable_byte (opcode := 0x29#8) fun _ => rfl
  | .ancImm_2B _ => execTable_byte (opcode := 0x2B#8) fun _ => rfl
  | .bitAbs v => (fun _ => rfl : ExecTable 0x2C#8 v _)
  | .andAbs v => (fun _ => rfl : ExecTable 0x2D#8 v _)
  | .rolAbs v => (fun _ => rfl : ExecTable 0x2E#8 v _)
  | .rlaAbs v => (fun _ => rfl : ExecTable 0x2F#8 v _)
  | .bmi _ => execTable_byte (opcode := 0x30#8) fun _ => rfl
  | .andIdy _ => execTable_byte (opcode := 0x31#8) fun _ => rfl
  | .rlaIdy _ => execTable_byte (opcode := 0x33#8) fun _ => rfl
  | .nopZpx_34 _ => execTable_byte (opcode := 0x34#8) fun _ => rfl
  | .andZpx _ => execTable_byte (opcode := 0x35#8) fun _ => rfl
  | .rolZpx _ => execTable_byte (opcode := 0x36#8) fun _ => rfl
  | .rlaZpx _ => execTable_byte (opcode := 0x37#8) fun _ => rfl
  | .andAby v => (fun _ => rfl : ExecTable 0x39#8 v _)
  | .rlaAby v => (fun _ => rfl : ExecTable 0x3B#8 v _)
  | .nopAbx_3C v => (fun _ => rfl : ExecTable 0x3C#8 v _)
  | .andAbx v => (fun _ => rfl : ExecTable 0x3D#8 v _)
  | .rolAbx v => (fun _ => rfl : ExecTable 0x3E#8 v _)
  | .rlaAbx v => (fun _ => rfl : ExecTable 0x3F#8 v _)
  | .eorIdx _ => execTable_byte (opcode := 0x41#8) fun _ => rfl
  | .sreIdx _ => execTable_byte (opcode := 0x43#8) fun _ => rfl
  | .nopZp0_44 _ => execTable_byte (opcode := 0x44#8) fun _ => rfl
  | .eorZp0 _ => execTable_byte (opcode := 0x45#8) fun _ => rfl
  | .lsrZp0 _ => execTable_byte (opcode := 0x46#8) fun _ => rfl
  | .sreZp0 _ => execTable_byte (opcode := 0x47#8) fun _ => rfl
  | .eorImm _ => execTable_byte (opcode := 0x49#8) fun _ => rfl
  | .alrImm _ => execTable_byte (opcode := 0x4B#8) fun _ => rfl
  | .jmpAbs v => (fun _ => rfl : ExecTable 0x4C#8 v _)
  | .eorAbs v => (fun _ => rfl : ExecTable 0x4D#8 v _)
  | .lsrAbs v => (fun _ => rfl : ExecTable 0x4E#8 v _)
  | .sreAbs v => (fun _ => rfl : ExecTable 0x4F#8 v _)
  | .bvc _ => execTable_byte (opcode := 0x50#8) fun _ => rfl
  | .eorIdy _ => execTable_byte (opcode := 0x51#8) fun _ => rfl
  | .sreIdy _ => execTable_byte (opcode := 0x53#8) fun _ => rfl
  | .nopZpx_54 _ => execTable_byte (opcode := 0x54#8) fun _ => rfl
  | .eorZpx _ => execTable_byte (opcode := 0x55#8) fun _ => rfl
  | .lsrZpx _ => execTable_byte (opcode := 0x56#8) fun _ => rfl
  | .sreZpx _ => execTable_byte (opcode := 0x57#8) fun _ => rfl
  | .eorAby v => (fun _ => rfl : ExecTable 0x59#8 v _)
  | .sreAby v => (fun _ => rfl : ExecTable 0x5B#8 v _)
  | .nopAbx_5C v => (fun _ => rfl : ExecTable 0x5C#8 v _)
  | .eorAbx v => (fun _ => rfl : ExecTable 0x5D#8 v _)
  | .lsrAbx v => (fun _ => rfl : ExecTable 0x5E#8 v _)
  | .sreAbx v => (fun _ => rfl : ExecTable 0x5F#8 v _)
  | .adcIdx _ => execTable_byte (opcode := 0x61#8) fun _ => rfl
  | .rraIdx _ => execTable_byte (opcode := 0x63#8) fun _ => rfl
  | .nopZp0_64 _ => execTable_byte (opcode := 0x64#8) fun _ => rfl
  | .adcZp0 _ => execTable_byte (opcode := 0x65#8) fun _ => rfl
  | .rorZp0 _ => execTable_byte (opcode := 0x66#8) fun _ => rfl
  | .rraZp0 _ => execTable_byte (opcode := 0x67#8) fun _ => rfl
  | .adcImm _ => execTable_byte (opcode := 0x69#8) fun _ => rfl
  | .arrImm _ => execTable_byte (opcode := 0x6B#8) fun _ => rfl
  | .jmpInd v => (fun _ => rfl : ExecTable 0x6C#8 v _)
  | .adcAbs v => (fun _ => rfl : ExecTable 0x6D#8 v _)
  | .rorAbs v => (fun _ => rfl : ExecTable 0x6E#8 v _)
  | .rraAbs v => (fun _ => rfl : ExecTable 0x6F#8 v _)
  | .bvs _ => execTable_byte (opcode := 0x70#8) fun _ => rfl
  | .adcIdy _ => execTable_byte (opcode := 0x71#8) fun _ => rfl
  | .rraIdy _ => execTable_byte (opcode := 0x73#8) fun _ => rfl
  | .nopZpx_74 _ => execTable_byte (opcode := 0x74#8) fun _ => rfl
  | .adcZpx _ => execTable_byte (opcode := 0x75#8) fun _ => rfl
  | .rorZpx _ => execTable_byte (opcode := 0x76#8) fun _ => rfl
  | .rraZpx _ => execTable_byte (opcode := 0x77#8) fun _ => rfl
  | .adcAby v => (fun _ => rfl : ExecTable 0x79#8 v _)
  | .rraAby v => (fun _ => rfl : ExecTable 0x7B#8 v _)
  | .nopAbx_7C v => (fun _ => rfl : ExecTable 0x7C#8 v _)
  | .adcAbx v => (fun _ => rfl : ExecTable 0x7D#8 v _)
  | .rorAbx v => (fun _ => rfl : ExecTable 0x7E#8 v _)
  | .rraAbx v => (fun _ => rfl : ExecTable 0x7F#8 v _)
  | .nopImm_80 _ => execTable_byte (opcode := 0x80#8) fun _ => rfl
  | .staIdx _ => execTable_byte (opcode := 0x81#8) fun _ => rfl
  | .nopImm_82 _ => execTable_byte (opcode := 0x82#8) fun _ => rfl
  | .saxIdx _ => execTable_byte (opcode := 0x83#8) fun _ => rfl
  | .styZp0 _ => execTable_byte (opcode := 0x84#8) fun _ => rfl
  | .staZp0 _ => execTable_byte (opcode := 0x85#8) fun _ => rfl
  | .stxZp0 _ => execTable_byte (opcode := 0x86#8) fun _ => rfl
  | .saxZp0 _ => execTable_byte (opcode := 0x87#8) fun _ => rfl
  | .nopImm_89 _ => execTable_byte (opcode := 0x89#8) fun _ => rfl
  | .xaaImm _ => execTable_byte (opcode := 0x8B#8) fun _ => rfl
  | .styAbs v => (fun _ => rfl : ExecTable 0x8C#8 v _)
  | .staAbs v => (fun _ => rfl : ExecTable 0x8D#8 v _)
  | .stxAbs v => (fun _ => rfl : ExecTable 0x8E#8 v _)
  | .saxAbs v => (fun _ => rfl : ExecTable 0x8F#8 v _)
  | .bcc _ => execTable_byte (opcode := 0x90#8) fun _ => rfl
  | .staIdy _ => execTable_byte (opcode := 0x91#8) fun _ => rfl
  | .ahxIdy _ => execTable_byte (opcode := 0x93#8) fun _ => rfl
  | .styZpx _ => execTable_byte (opcode := 0x94#8) fun _ => rfl
  | .staZpx _ => execTable_byte (opcode := 0x95#8) fun _ => rfl
  | .stxZpy _ => execTable_byte (opcode := 0x96#8) fun _ => rfl
  | .saxZpy _ => execTable_byte (opcode := 0x97#8) fun _ => rfl
  | .staAby v => (fun _ => rfl : ExecTable 0x99#8 v _)
  | .tasAby v => (fun _ => rfl : ExecTable 0x9B#8 v _)
  | .shyAbx v => (fun _ => rfl : ExecTable 0x9C#8 v _)
  | .staAbx v => (fun _ => rfl : ExecTable 0x9D#8 v _)
  | .shxAby v => (fun _ => rfl : ExecTable 0x9E#8 v _)
  | .ahxAby v => (fun _ => rfl : ExecTable 0x9F#8 v _)
  | .ldyImm _ => execTable_byte (opcode := 0xA0#8) fun _ => rfl
  | .ldaIdx _ => execTable_byte (opcode := 0xA1#8) fun _ => rfl
  | .ldxImm _ => execTable_byte (opcode := 0xA2#8) fun _ => rfl
  | .laxIdx _ => execTable_byte (opcode := 0xA3#8) fun _ => rfl
  | .ldyZp0 _ => execTable_byte (opcode := 0xA4#8) fun _ => rfl
  | .ldaZp0 _ => execTable_byte (opcode := 0xA5#8) fun _ => rfl
  | .ldxZp0 _ => execTable_byte (opcode := 0xA6#8) fun _ => rfl
  | .laxZp0 _ => execTable_byte (opcode := 0xA7#8) fun _ => rfl
  | .ldaImm _ => execTable_byte (opcode := 0xA9#8) fun _ => rfl
  | .laxImm _ => execTable_byte (opcode := 0xAB#8) fun _ => rfl
  | .ldyAbs v => (fun _ => rfl : ExecTable 0xAC#8 v _)
  | .ldaAbs v => (fun _ => rfl : ExecTable 0xAD#8 v _)
  | .ldxAbs v => (fun _ => rfl : ExecTable 0xAE#8 v _)
  | .laxAbs v => (fun _ => rfl : ExecTable 0xAF#8 v _)
  | .bcs _ => execTable_byte (opcode := 0xB0#8) fun _ => rfl
  | .ldaIdy _ => execTable_byte (opcode := 0xB1#8) fun _ => rfl
  | .laxIdy _ => execTable_byte (opcode := 0xB3#8) fun _ => rfl
  | .ldyZpx _ => execTable_byte (opcode := 0xB4#8) fun _ => rfl
  | .ldaZpx _ => execTable_byte (opcode := 0xB5#8) fun _ => rfl
  | .ldxZpy _ => execTable_byte (opcode := 0xB6#8) fun _ => rfl
  | .laxZpy _ => execTable_byte (opcode := 0xB7#8) fun _ => rfl
  | .ldaAby v => (fun _ => rfl : ExecTable 0xB9#8 v _)
  | .lasAby v => (fun _ => rfl : ExecTable 0xBB#8 v _)
  | .ldyAbx v => (fun _ => rfl : ExecTable 0xBC#8 v _)
  | .ldaAbx v => (fun _ => rfl : ExecTable 0xBD#8 v _)
  | .ldxAby v => (fun _ => rfl : ExecTable 0xBE#8 v _)
  | .laxAby v => (fun _ => rfl : ExecTable 0xBF#8 v _)
  | .cpyImm _ => execTable_byte (opcode := 0xC0#8) fun _ => rfl
  | .cmpIdx _ => execTable_byte (opcode := 0xC1#8) fun _ => rfl
  | .nopImm_C2 _ => execTable_byte (opcode := 0xC2#8) fun _ => rfl
  | .dcpIdx _ => execTable_byte (opcode := 0xC3#8) fun _ => rfl
  | .cpyZp0 _ => execTable_byte (opcode := 0xC4#8) fun _ => rfl
  | .cmpZp0 _ => execTable_byte (opcode := 0xC5#8) fun _ => rfl
  | .decZp0 _ => execTable_byte (opcode := 0xC6#8) fun _ => rfl
  | .dcpZp0 _ => execTable_byte (opcode := 0xC7#8) fun _ => rfl
  | .cmpImm _ => execTable_byte (opcode := 0xC9#8) fun _ => rfl
  | .axsImm _ => execTable_byte (opcode := 0xCB#8) fun _ => rfl
  | .cpyAbs v => (fun _ => rfl : ExecTable 0xCC#8 v _)
  | .cmpAbs v => (fun _ => rfl : ExecTable 0xCD#8 v _)
  | .decAbs v => (fun _ => rfl : ExecTable 0xCE#8 v _)
  | .dcpAbs v => (fun _ => rfl : ExecTable 0xCF#8 v _)
  | .bne _ => execTable_byte (opcode := 0xD0#8) fun _ => rfl
  | .cmpIdy _ => execTable_byte (opcode := 0xD1#8) fun _ => rfl
  | .dcpIdy _ => execTable_byte (opcode := 0xD3#8) fun _ => rfl
  | .nopZpx_D4 _ => execTable_byte (opcode := 0xD4#8) fun _ => rfl
  | .cmpZpx _ => execTable_byte (opcode := 0xD5#8) fun _ => rfl
  | .decZpx _ => execTable_byte (opcode := 0xD6#8) fun _ => rfl
  | .dcpZpx _ => execTable_byte (opcode := 0xD7#8) fun _ => rfl
  | .cmpAby v => (fun _ => rfl : ExecTable 0xD9#8 v _)
  | .dcpAby v => (fun _ => rfl : ExecTable 0xDB#8 v _)
  | .nopAbx_DC v => (fun _ => rfl : ExecTable 0xDC#8 v _)
  | .cmpAbx v => (fun _ => rfl : ExecTable 0xDD#8 v _)
  | .decAbx v => (fun _ => rfl : ExecTable 0xDE#8 v _)
  | .dcpAbx v => (fun _ => rfl : ExecTable 0xDF#8 v _)
  | .cpxImm _ => execTable_byte (opcode := 0xE0#8) fun _ => rfl
  | .sbcIdx _ => execTable_byte (opcode := 0xE1#8) fun _ => rfl
  | .nopImm_E2 _ => execTable_byte (opcode := 0xE2#8) fun _ => rfl
  | .isbIdx _ => execTable_byte (opcode := 0xE3#8) fun _ => rfl
  | .cpxZp0 _ => execTable_byte (opcode := 0xE4#8) fun _ => rfl
  | .sbcZp0 _ => execTable_byte (opcode := 0xE5#8) fun _ => rfl
  | .incZp0 _ => execTable_byte (opcode := 0xE6#8) fun _ => rfl
  | .isbZp0 _ => execTable_byte (opcode := 0xE7#8) fun _ => rfl
  | .sbcImm _ => execTable_byte (opcode := 0xE9#8) fun _ => rfl
  | .sbcImm_EB _ => execTable_byte (opcode := 0xEB#8) fun _ => rfl
  | .cpxAbs v => (fun _ => rfl : ExecTable 0xEC#8 v _)
  | .sbcAbs v => (fun _ => rfl : ExecTable 0xED#8 v _)
  | .incAbs v => (fun _ => rfl : ExecTable 0xEE#8 v _)
  | .isbAbs v => (fun _ => rfl : ExecTable 0xEF#8 v _)
  | .beq _ => execTable_byte (opcode := 0xF0#8) fun _ => rfl
  | .sbcIdy _ => execTable_byte (opcode := 0xF1#8) fun _ => rfl
  | .isbIdy _ => execTable_byte (opcode := 0xF3#8) fun _ => rfl
  | .nopZpx_F4 _ => execTable_byte (opcode := 0xF4#8) fun _ => rfl
  | .sbcZpx _ => execTable_byte (opcode := 0xF5#8) fun _ => rfl
  | .incZpx _ => execTable_byte (opcode := 0xF6#8) fun _ => rfl
  | .isbZpx _ => execTable_byte (opcode := 0xF7#8) fun _ => rfl
  | .sbcAby v => (fun _ => rfl : ExecTable 0xF9#8 v _)
  | .isbAby v => (fun _ => rfl : ExecTable 0xFB#8 v _)
  | .nopAbx_FC v => (fun _ => rfl : ExecTable 0xFC#8 v _)
  | .sbcAbx v => (fun _ => rfl : ExecTable 0xFD#8 v _)
  | .incAbx v => (fun _ => rfl : ExecTable 0xFE#8 v _)
  | .isbAbx v => (fun _ => rfl : ExecTable 0xFF#8 v _)
  | .xxx_02 => (fun _ => rfl : ExecTable 0x02#8 0 _)
  | .php => (fun _ => rfl : ExecTable 0x08#8 0 _)
  | .aslAcc => (fun _ => rfl : ExecTable 0x0A#8 0 _)
  | .xxx_12 => (fun _ => rfl : ExecTable 0x12#8 0 _)
  | .clc => (fun _ => rfl : ExecTable 0x18#8 0 _)
  | .nopImp_1A => (fun _ => rfl : ExecTable 0x1A#8 0 _)
  | .xxx_22 => (fun _ => rfl : ExecTable 0x22#8 0 _)
  | .plp => (fun _ => rfl : ExecTable 0x28#8 0 _)
  | .rolAcc => (fun _ => rfl : ExecTable 0x2A#8 0 _)
  | .xxx_32 => (fun _ => rfl : ExecTable 0x32#8 0 _)
  | .sec => (fun _ => rfl : ExecTable 0x38#8 0 _)
  | .nopImp_3A => (fun _ => rfl : ExecTable 0x3A#8 0 _)
  | .rti => (fun _ => rfl : ExecTable 0x40#8 0 _)
  | .xxx_42 => (fun _ => rfl : ExecTable 0x42#8 0 _)
  | .pha => (fun _ => rfl : ExecTable 0x48#8 0 _)
  | .lsrAcc => (fun _ => rfl : ExecTable 0x4A#8 0 _)
  | .xxx_52 => (fun _ => rfl : ExecTable 0x52#8 0 _)
  | .cli => (fun _ => rfl : ExecTable 0x58#8 0 _)
  | .nopImp_5A => (fun _ => rfl : ExecTable 0x5A#8 0 _)
  | .rts => (fun _ => rfl : ExecTable 0x60#8 0 _)
  | .xxx_62 => (fun _ => rfl : ExecTable 0x62#8 0 _)
  | .pla => (fun _ => rfl : ExecTable 0x68#8 0 _)
  | .rorAcc => (fun _ => rfl : ExecTable 0x6A#8 0 _)
  | .xxx_72 => (fun _ => rfl : ExecTable 0x72#8 0 _)
  | .sei => (fun _ => rfl : ExecTable 0x78#8 0 _)
  | .nopImp_7A => (fun _ => rfl : ExecTable 0x7A#8 0 _)
  | .dey => (fun _ => rfl : ExecTable 0x88#8 0 _)
  | .txa => (fun _ => rfl : ExecTable 0x8A#8 0 _)
  | .xxx_92 => (fun _ => rfl : ExecTable 0x92#8 0 _)
  | .tya => (fun _ => rfl : ExecTable 0x98#8 0 _)
  | .txs => (fun _ => rfl : ExecTable 0x9A#8 0 _)
  | .tay => (fun _ => rfl : ExecTable 0xA8#8 0 _)
  | .tax => (fun _ => rfl : ExecTable 0xAA#8 0 _)
  | .xxx_B2 => (fun _ => rfl : ExecTable 0xB2#8 0 _)
  | .clv => (fun _ => rfl : ExecTable 0xB8#8 0 _)
  | .tsx => (fun _ => rfl : ExecTable 0xBA#8 0 _)
  | .iny => (fun _ => rfl : ExecTable 0xC8#8 0 _)
  | .dex => (fun _ => rfl : ExecTable 0xCA#8 0 _)
  | .xxx_D2 => (fun _ => rfl : ExecTable 0xD2#8 0 _)
  | .cld => (fun _ => rfl : ExecTable 0xD8#8 0 _)
  | .nopImp_DA => (fun _ => rfl : ExecTable 0xDA#8 0 _)
  | .inx => (fun _ => rfl : ExecTable 0xE8#8 0 _)
  | .nop => (fun _ => rfl : ExecTable 0xEA#8 0 _)
  | .xxx_F2 => (fun _ => rfl : ExecTable 0xF2#8 0 _)
  | .sed => (fun _ => rfl : ExecTable 0xF8#8 0 _)
  | .nopImp_FA => (fun _ => rfl : ExecTable 0xFA#8 0 _)

/-- Every meaning is its mode routine followed by its operation routine. -/
theorem exec_table (i : Instr) (s : State) :
    exec i s = .next (opRun i.entry (modeRun i.entry i.operand s)) := execTable_all i s

end Sys2Proof.Machine
end

