-- ==== Sys2Proof/Laws/Decode.lean ====
section
/-!
SUPPORT. Decoder and encoder are written from one matrix: the instruction of an opcode has that opcode
and those operand bytes, and every instruction is the one of its opcode and operand.
-/

namespace Sys2Proof

open Machine

theorem instrOf_byte {op : Byte} {f : Byte → Instr} (h : ∀ b c, instrOf op b c = f b) (b c : Byte) :
    instrOf op (lo (zext16 b)) c = f b := by rw [h, lo_zext16]

theorem instrOf_word {op : Byte} {f : Word → Instr} (h : ∀ b c, instrOf op b c = f (mk16 c b))
    (w : Word) : instrOf op (lo w) (hi w) = f w := by rw [h, mk16_hi_lo]

/-- Every instruction is the one with its opcode and its operand bytes. -/
theorem instrOf_opcode : ∀ i : Instr, instrOf i.opcode (lo i.operand) (hi i.operand) = i
  | .brk b => instrOf_byte (op := 0x00#8) (f := .brk) (fun _ _ => rfl) b _
  | .oraIdx b => instrOf_byte (op := 0x01#8) (f := .oraIdx) (fun _ _ => rfl) b _
  | .sloIdx b => instrOf_byte (op := 0x03#8) (f := .sloIdx) (fun _ _ => rfl) b _
  | .nopZp0_04 b => instrOf_byte (op := 0x04#8) (f := .nopZp0_04) (fun _ _ => rfl) b _
  | .oraZp0 b => instrOf_byte (op := 0x05#8) (f := .oraZp0) (fun _ _ => rfl) b _
  | .aslZp0 b => instrOf_byte (op := 0x06#8) (f := .aslZp0) (fun _ _ => rfl) b _
  | .sloZp0 b => instrOf_byte (op := 0x07#8) (f := .sloZp0) (fun _ _ => rfl) b _
  | .oraImm b => instrOf_byte (op := 0x09#8) (f := .oraImm) (fun _ _ => rfl) b _
  | .ancImm_0B b => instrOf_byte (op := 0x0B#8) (f := .ancImm_0B) (fun _ _ => rfl) b _
  | .nopAbs v => instrOf_word (op := 0x0C#8) (f := .nopAbs) (fun _ _ => rfl) v
  | .oraAbs v => instrOf_word (op := 0x0D#8) (f := .oraAbs) (fun _ _ => rfl) v
  | .aslAbs v => instrOf_word (op := 0x0E#8) (f := .aslAbs) (fun _ _ => rfl) v
  | .sloAbs v => instrOf_word (op := 0x0F#8) (f := .sloAbs) (fun _ _ => rfl) v
  | .bpl b => instrOf_byte (op := 0x10#8) (f := .bpl) (fun _ _ => rfl) b _
  | .oraIdy b => instrOf_byte (op := 0x11#8) (f := .oraIdy) (fun _ _ => rfl) b _
  | .sloIdy b => instrOf_byte (op := 0x13#8) (f := .sloIdy) (fun _ _ => rfl) b _
  | .nopZpx_14 b => instrOf_byte (op := 0x14#8) (f := .nopZpx_14) (fun _ _ => rfl) b _
  | .oraZpx b => instrOf_byte (op := 0x15#8) (f := .oraZpx) (fun _ _ => rfl) b _
  | .aslZpx b => instrOf_byte (op := 0x16#8) (f := .aslZpx) (fun _ _ => rfl) b _
  | .sloZpx b => instrOf_byte (op := 0x17#8) (f := .sloZpx) (fun _ _ => rfl) b _
  | .oraAby v => instrOf_word (op := 0x19#8) (f := .oraAby) (fun _ _ => rfl) v
  | .sloAby v => instrOf_word (op := 0x1B#8) (f := .sloAby) (fun _ _ => rfl) v
  | .nopAbx_1C v => instrOf_word (op := 0x1C#8) (f := .nopAbx_1C) (fun _ _ => rfl) v
  | .oraAbx v => instrOf_word (op := 0x1D#8) (f := .oraAbx) (fun _ _ => rfl) v
  | .aslAbx v => instrOf_word (op := 0x1E#8) (f := .aslAbx) (fun _ _ => rfl) v
  | .sloAbx v => instrOf_word (op := 0x1F#8) (f := .sloAbx) (fun _ _ => rfl) v
  | .jsr v => instrOf_word (op := 0x20#8) (f := .jsr) (fun _ _ => rfl) v
  | .andIdx b => instrOf_byte (op := 0x21#8) (f := .andIdx) (fun _ _ => rfl) b _
  | .rlaIdx b => instrOf_byte (op := 0x23#8) (f := .rlaIdx) (fun _ _ => rfl) b _
  | .bitZp0 b => instrOf_byte (op := 0x24#8) (f := .bitZp0) (fun _ _ => rfl) b _
  | .andZp0 b => instrOf_byte (op := 0x25#8) (f := .andZp0) (fun _ _ => rfl) b _
  | .rolZp0 b => instrOf_byte (op := 0x26#8) (f := .rolZp0) (fun _ _ => rfl) b _
  | .rlaZp0 b => instrOf_byte (op := 0x27#8) (f := .rlaZp0) (fun _ _ => rfl) b _
  | .andImm b => instrOf_byte (op := 0x29#8) (f := .andImm) (fun _ _ => rfl) b _
  | .ancImm_2B b => instrOf_byte (op := 0x2B#8) (f := .ancImm_2B) (fun _ _ => rfl) b _
  | .bitAbs v => instrOf_word (op := 0x2C#8) (f := .bitAbs) (fun _ _ => rfl) v
  | .andAbs v => instrOf_word (op := 0x2D#8) (f := .andAbs) (fun _ _ => rfl) v
  | .rolAbs v => instrOf_word (op := 0x2E#8) (f := .rolAbs) (fun _ _ => rfl) v
  | .rlaAbs v => instrOf_word (op := 0x2F#8) (f := .rlaAbs) (fun _ _ => rfl) v
  | .bmi b => instrOf_byte (op := 0x30#8) (f := .bmi) (fun _ _ => rfl) b _
  | .andIdy b => instrOf_byte (op := 0x31#8) (f := .andIdy) (fun _ _ => rfl) b _
  | .rlaIdy b => instrOf_byte (op := 0x33#8) (f := .rlaIdy) (fun _ _ => rfl) b _
  | .nopZpx_34 b => instrOf_byte (op := 0x34#8) (f := .nopZpx_34) (fun _ _ => rfl) b _
  | .andZpx b => instrOf_byte (op := 0x35#8) (f := .andZpx) (fun _ _ => rfl) b _
  | .rolZpx b => instrOf_byte (op := 0x36#8) (f := .rolZpx) (fun _ _ => rfl) b _
  | .rlaZpx b => instrOf_byte (op := 0x37#8) (f := .rlaZpx) (fun _ _ => rfl) b _
  | .andAby v => instrOf_word (op := 0x39#8) (f := .andAby) (fun _ _ => rfl) v
  | .rlaAby v => instrOf_word (op := 0x3B#8) (f := .rlaAby) (fun _ _ => rfl) v
  | .nopAbx_3C v => instrOf_word (op := 0x3C#8) (f := .nopAbx_3C) (fun _ _ => rfl) v
  | .andAbx v => instrOf_word (op := 0x3D#8) (f := .andAbx) (fun _ _ => rfl) v
  | .rolAbx v => instrOf_word (op := 0x3E#8) (f := .rolAbx) (fun _ _ => rfl) v
  | .rlaAbx v => instrOf_word (op := 0x3F#8) (f := .rlaAbx) (fun _ _ => rfl) v
  | .eorIdx b => instrOf_byte (op := 0x41#8) (f := .eorIdx) (fun _ _ => rfl) b _
  | .sreIdx b => instrOf_byte (op := 0x43#8) (f := .sreIdx) (fun _ _ => rfl) b _
  | .nopZp0_44 b => instrOf_byte (op := 0x44#8) (f := .nopZp0_44) (fun _ _ => rfl) b _
  | .eorZp0 b => instrOf_byte (op := 0x45#8) (f := .eorZp0) (fun _ _ => rfl) b _
  | .lsrZp0 b => instrOf_byte (op := 0x46#8) (f := .lsrZp0) (fun _ _ => rfl) b _
  | .sreZp0 b => instrOf_byte (op := 0x47#8) (f := .sreZp0) (fun _ _ => rfl) b _
  | .eorImm b => instrOf_byte (op := 0x49#8) (f := .eorImm) (fun _ _ => rfl) b _
  | .alrImm b => instrOf_byte (op := 0x4B#8) (f := .alrImm) (fun _ _ => rfl) b _
  | .jmpAbs v => instrOf_word (op := 0x4C#8) (f := .jmpAbs) (fun _ _ => rfl) v
  | .eorAbs v => instrOf_word (op := 0x4D#8) (f := .eorAbs) (fun _ _ => rfl) v
  | .lsrAbs v => instrOf_word (op := 0x4E#8) (f := .lsrAbs) (fun _ _ => rfl) v
  | .sreAbs v => instrOf_word (op := 0x4F#8) (f := .sreAbs) (fun _ _ => rfl) v
  | .bvc b => instrOf_byte (op := 0x50#8) (f := .bvc) (fun _ _ => rfl) b _
  | .eorIdy b => instrOf_byte (op := 0x51#8) (f := .eorIdy) (fun _ _ => rfl) b _
  | .sreIdy b => instrOf_byte (op := 0x53#8) (f := .sreIdy) (fun _ _ => rfl) b _
  | .nopZpx_54 b => instrOf_byte (op := 0x54#8) (f := .nopZpx_54) (fun _ _ => rfl) b _
  | .eorZpx b => instrOf_byte (op := 0x55#8) (f := .eorZpx) (fun _ _ => rfl) b _
  | .lsrZpx b => instrOf_byte (op := 0x56#8) (f := .lsrZpx) (fun _ _ => rfl) b _
  | .sreZpx b => instrOf_byte (op := 0x57#8) (f := .sreZpx) (fun _ _ => rfl) b _
  | .eorAby v => instrOf_word (op := 0x59#8) (f := .eorAby) (fun _ _ => rfl) v
  | .sreAby v => instrOf_word (op := 0x5B#8) (f := .sreAby) (fun _ _ => rfl) v
  | .nopAbx_5C v => instrOf_word (op := 0x5C#8) (f := .nopAbx_5C) (fun _ _ => rfl) v
  | .eorAbx v => instrOf_word (op := 0x5D#8) (f := .eorAbx) (fun _ _ => rfl) v
  | .lsrAbx v => instrOf_word (op := 0x5E#8) (f := .lsrAbx) (fun _ _ => rfl) v
  | .sreAbx v => instrOf_word (op := 0x5F#8) (f := .sreAbx) (fun _ _ => rfl) v
  | .adcIdx b => instrOf_byte (op := 0x61#8) (f := .adcIdx) (fun _ _ => rfl) b _
  | .rraIdx b => instrOf_byte (op := 0x63#8) (f := .rraIdx) (fun _ _ => rfl) b _
  | .nopZp0_64 b => instrOf_byte (op := 0x64#8) (f := .nopZp0_64) (fun _ _ => rfl) b _
  | .adcZp0 b => instrOf_byte (op := 0x65#8) (f := .adcZp0) (fun _ _ => rfl) b _
  | .rorZp0 b => instrOf_byte (op := 0x66#8) (f := .rorZp0) (fun _ _ => rfl) b _
  | .rraZp0 b => instrOf_byte (op := 0x67#8) (f := .rraZp0) (fun _ _ => rfl) b _
  | .adcImm b => instrOf_byte (op := 0x69#8) (f := .adcImm) (fun _ _ => rfl) b _
  | .arrImm b => instrOf_byte (op := 0x6B#8) (f := .arrImm) (fun _ _ => rfl) b _
  | .jmpInd v => instrOf_word (op := 0x6C#8) (f := .jmpInd) (fun _ _ => rfl) v
  | .adcAbs v => instrOf_word (op := 0x6D#8) (f := .adcAbs) (fun _ _ => rfl) v
  | .rorAbs v => instrOf_word (op := 0x6E#8) (f := .rorAbs) (fun _ _ => rfl) v
  | .rraAbs v => instrOf_word (op := 0x6F#8) (f := .rraAbs) (fun _ _ => rfl) v
  | .bvs b => instrOf_byte (op := 0x70#8) (f := .bvs) (fun _ _ => rfl) b _
  | .adcIdy b => instrOf_byte (op := 0x71#8) (f := .adcIdy) (fun _ _ => rfl) b _
  | .rraIdy b => instrOf_byte (op := 0x73#8) (f := .rraIdy) (fun _ _ => rfl) b _
  | .nopZpx_74 b => instrOf_byte (op := 0x74#8) (f := .nopZpx_74) (fun _ _ => rfl) b _
  | .adcZpx b => instrOf_byte (op := 0x75#8) (f := .adcZpx) (fun _ _ => rfl) b _
  | .rorZpx b => instrOf_byte (op := 0x76#8) (f := .rorZpx) (fun _ _ => rfl) b _
  | .rraZpx b => instrOf_byte (op := 0x77#8) (f := .rraZpx) (fun _ _ => rfl) b _
  | .adcAby v => instrOf_word (op := 0x79#8) (f := .adcAby) (fun _ _ => rfl) v
  | .rraAby v => instrOf_word (op := 0x7B#8) (f := .rraAby) (fun _ _ => rfl) v
  | .nopAbx_7C v => instrOf_word (op := 0x7C#8) (f := .nopAbx_7C) (fun _ _ => rfl) v
  | .adcAbx v => instrOf_word (op := 0x7D#8) (f := .adcAbx) (fun _ _ => rfl) v
  | .rorAbx v => instrOf_word (op := 0x7E#8) (f := .rorAbx) (fun _ _ => rfl) v
  | .rraAbx v => instrOf_word (op := 0x7F#8) (f := .rraAbx) (fun _ _ => rfl) v
  | .nopImm_80 b => instrOf_byte (op := 0x80#8) (f := .nopImm_80) (fun _ _ => rfl) b _
  | .staIdx b => instrOf_byte (op := 0x81#8) (f := .staIdx) (fun _ _ => rfl) b _
  | .nopImm_82 b => instrOf_byte (op := 0x82#8) (f := .nopImm_82) (fun _ _ => rfl) b _
  | .saxIdx b => instrOf_byte (op := 0x83#8) (f := .saxIdx) (fun _ _ => rfl) b _
  | .styZp0 b => instrOf_byte (op := 0x84#8) (f := .styZp0) (fun _ _ => rfl) b _
  | .staZp0 b => instrOf_byte (op := 0x85#8) (f := .staZp0) (fun _ _ => rfl) b _
  | .stxZp0 b => instrOf_byte (op := 0x86#8) (f := .stxZp0) (fun _ _ => rfl) b _
  | .saxZp0 b => instrOf_byte (op := 0x87#8) (f := .saxZp0) (fun _ _ => rfl) b _
  | .nopImm_89 b => instrOf_byte (op := 0x89#8) (f := .nopImm_89) (fun _ _ => rfl) b _
  | .xaaImm b => instrOf_byte (op := 0x8B#8) (f := .xaaImm) (fun _ _ => rfl) b _
  | .styAbs v => instrOf_word (op := 0x8C#8) (f := .styAbs) (fun _ _ => rfl) v
  | .staAbs v => instrOf_word (op := 0x8D#8) (f := .staAbs) (fun _ _ => rfl) v
  | .stxAbs v => instrOf_word (op := 0x8E#8) (f := .stxAbs) (fun _ _ => rfl) v
  | .saxAbs v => instrOf_word (op := 0x8F#8) (f := .saxAbs) (fun _ _ => rfl) v
  | .bcc b => instrOf_byte (op := 0x90#8) (f := .bcc) (fun _ _ => rfl) b _
  | .staIdy b => instrOf_byte (op := 0x91#8) (f := .staIdy) (fun _ _ => rfl) b _
  | .ahxIdy b => instrOf_byte (op := 0x93#8) (f := .ahxIdy) (fun _ _ => rfl) b _
  | .styZpx b => instrOf_byte (op := 0x94#8) (f := .styZpx) (fun _ _ => rfl) b _
  | .staZpx b => instrOf_byte (op := 0x95#8) (f := .staZpx) (fun _ _ => rfl) b _
  | .stxZpy b => instrOf_byte (op := 0x96#8) (f := .stxZpy) (fun _ _ => rfl) b _
  | .saxZpy b => instrOf_byte (op := 0x97#8) (f := .saxZpy) (fun _ _ => rfl) b _
  | .staAby v => instrOf_word (op := 0x99#8) (f := .staAby) (fun _ _ => rfl) v
  | .tasAby v => instrOf_word (op := 0x9B#8) (f := .tasAby) (fun _ _ => rfl) v
  | .shyAbx v => instrOf_word (op := 0x9C#8) (f := .shyAbx) (fun _ _ => rfl) v
  | .staAbx v => instrOf_word (op := 0x9D#8) (f := .staAbx) (fun _ _ => rfl) v
  | .shxAby v => instrOf_word (op := 0x9E#8) (f := .shxAby) (fun _ _ => rfl) v
  | .ahxAby v => instrOf_word (op := 0x9F#8) (f := .ahxAby) (fun _ _ => rfl) v
  | .ldyImm b => instrOf_byte (op := 0xA0#8) (f := .ldyImm) (fun _ _ => rfl) b _
  | .ldaIdx b => instrOf_byte (op := 0xA1#8) (f := .ldaIdx) (fun _ _ => rfl) b _
  | .ldxImm b => instrOf_byte (op := 0xA2#8) (f := .ldxImm) (fun _ _ => rfl) b _
  | .laxIdx b => instrOf_byte (op := 0xA3#8) (f := .laxIdx) (fun _ _ => rfl) b _
  | .ldyZp0 b => instrOf_byte (op := 0xA4#8) (f := .ldyZp0) (fun _ _ => rfl) b _
  | .ldaZp0 b => instrOf_byte (op := 0xA5#8) (f := .ldaZp0) (fun _ _ => rfl) b _
  | .ldxZp0 b => instrOf_byte (op := 0xA6#8) (f := .ldxZp0) (fun _ _ => rfl) b _
  | .laxZp0 b => instrOf_byte (op := 0xA7#8) (f := .laxZp0) (fun _ _ => rfl) b _
  | .ldaImm b => instrOf_byte (op := 0xA9#8) (f := .ldaImm) (fun _ _ => rfl) b _
  | .laxImm b => instrOf_byte (op := 0xAB#8) (f := .laxImm) (fun _ _ => rfl) b _
  | .ldyAbs v => instrOf_word (op := 0xAC#8) (f := .ldyAbs) (fun _ _ => rfl) v
  | .ldaAbs v => instrOf_word (op := 0xAD#8) (f := .ldaAbs) (fun _ _ => rfl) v
  | .ldxAbs v => instrOf_word (op := 0xAE#8) (f := .ldxAbs) (fun _ _ => rfl) v
  | .laxAbs v => instrOf_word (op := 0xAF#8) (f := .laxAbs) (fun _ _ => rfl) v
  | .bcs b => instrOf_byte (op := 0xB0#8) (f := .bcs) (fun _ _ => rfl) b _
  | .ldaIdy b => instrOf_byte (op := 0xB1#8) (f := .ldaIdy) (fun _ _ => rfl) b _
  | .laxIdy b => instrOf_byte (op := 0xB3#8) (f := .laxIdy) (fun _ _ => rfl) b _
  | .ldyZpx b => instrOf_byte (op := 0xB4#8) (f := .ldyZpx) (fun _ _ => rfl) b _
  | .ldaZpx b => instrOf_byte (op := 0xB5#8) (f := .ldaZpx) (fun _ _ => rfl) b _
  | .ldxZpy b => instrOf_byte (op := 0xB6#8) (f := .ldxZpy) (fun _ _ => rfl) b _
  | .laxZpy b => instrOf_byte (op := 0xB7#8) (f := .laxZpy) (fun _ _ => rfl) b _
  | .ldaAby v => instrOf_word (op := 0xB9#8) (f := .ldaAby) (fun _ _ => rfl) v
  | .lasAby v => instrOf_word (op := 0xBB#8) (f := .lasAby) (fun _ _ => rfl) v
  | .ldyAbx v => instrOf_word (op := 0xBC#8) (f := .ldyAbx) (fun _ _ => rfl) v
  | .ldaAbx v => instrOf_word (op := 0xBD#8) (f := .ldaAbx) (fun _ _ => rfl) v
  | .ldxAby v => instrOf_word (op := 0xBE#8) (f := .ldxAby) (fun _ _ => rfl) v
  | .laxAby v => instrOf_word (op := 0xBF#8) (f := .laxAby) (fun _ _ => rfl) v
  | .cpyImm b => instrOf_byte (op := 0xC0#8) (f := .cpyImm) (fun _ _ => rfl) b _
  | .cmpIdx b => instrOf_byte (op := 0xC1#8) (f := .cmpIdx) (fun _ _ => rfl) b _
  | .nopImm_C2 b => instrOf_byte (op := 0xC2#8) (f := .nopImm_C2) (fun _ _ => rfl) b _
  | .dcpIdx b => instrOf_byte (op := 0xC3#8) (f := .dcpIdx) (fun _ _ => rfl) b _
  | .cpyZp0 b => instrOf_byte (op := 0xC4#8) (f := .cpyZp0) (fun _ _ => rfl) b _
  | .cmpZp0 b => instrOf_byte (op := 0xC5#8) (f := .cmpZp0) (fun _ _ => rfl) b _
  | .decZp0 b => instrOf_byte (op := 0xC6#8) (f := .decZp0) (fun _ _ => rfl) b _
  | .dcpZp0 b => instrOf_byte (op := 0xC7#8) (f := .dcpZp0) (fun _ _ => rfl) b _
  | .cmpImm b => instrOf_byte (op := 0xC9#8) (f := .cmpImm) (fun _ _ => rfl) b _
  | .axsImm b => instrOf_byte (op := 0xCB#8) (f := .axsImm) (fun _ _ => rfl) b _
  | .cpyAbs v => instrOf_word (op := 0xCC#8) (f := .cpyAbs) (fun _ _ => rfl) v
  | .cmpAbs v => instrOf_word (op := 0xCD#8) (f := .cmpAbs) (fun _ _ => rfl) v
  | .decAbs v => instrOf_word (op := 0xCE#8) (f := .decAbs) (fun _ _ => rfl) v
  | .dcpAbs v => instrOf_word (op := 0xCF#8) (f := .dcpAbs) (fun _ _ => rfl) v
  | .bne b => instrOf_byte (op := 0xD0#8) (f := .bne) (fun _ _ => rfl) b _
  | .cmpIdy b => instrOf_byte (op := 0xD1#8) (f := .cmpIdy) (fun _ _ => rfl) b _
  | .dcpIdy b => instrOf_byte (op := 0xD3#8) (f := .dcpIdy) (fun _ _ => rfl) b _
  | .nopZpx_D4 b => instrOf_byte (op := 0xD4#8) (f := .nopZpx_D4) (fun _ _ => rfl) b _
  | .cmpZpx b => instrOf_byte (op := 0xD5#8) (f := .cmpZpx) (fun _ _ => rfl) b _
  | .decZpx b => instrOf_byte (op := 0xD6#8) (f := .decZpx) (fun _ _ => rfl) b _
  | .dcpZpx b => instrOf_byte (op := 0xD7#8) (f := .dcpZpx) (fun _ _ => rfl) b _
  | .cmpAby v => instrOf_word (op := 0xD9#8) (f := .cmpAby) (fun _ _ => rfl) v
  | .dcpAby v => instrOf_word (op := 0xDB#8) (f := .dcpAby) (fun _ _ => rfl) v
  | .nopAbx_DC v => instrOf_word (op := 0xDC#8) (f := .nopAbx_DC) (fun _ _ => rfl) v
  | .cmpAbx v => instrOf_word (op := 0xDD#8) (f := .cmpAbx) (fun _ _ => rfl) v
  | .decAbx v => instrOf_word (op := 0xDE#8) (f := .decAbx) (fun _ _ => rfl) v
  | .dcpAbx v => instrOf_word (op := 0xDF#8) (f := .dcpAbx) (fun _ _ => rfl) v
  | .cpxImm b => instrOf_byte (op := 0xE0#8) (f := .cpxImm) (fun _ _ => rfl) b _
  | .sbcIdx b => instrOf_byte (op := 0xE1#8) (f := .sbcIdx) (fun _ _ => rfl) b _
  | .nopImm_E2 b => instrOf_byte (op := 0xE2#8) (f := .nopImm_E2) (fun _ _ => rfl) b _
  | .isbIdx b => instrOf_byte (op := 0xE3#8) (f := .isbIdx) (fun _ _ => rfl) b _
  | .cpxZp0 b => instrOf_byte (op := 0xE4#8) (f := .cpxZp0) (fun _ _ => rfl) b _
  | .sbcZp0 b => instrOf_byte (op := 0xE5#8) (f := .sbcZp0) (fun _ _ => rfl) b _
  | .incZp0 b => instrOf_byte (op := 0xE6#8) (f := .incZp0) (fun _ _ => rfl) b _
  | .isbZp0 b => instrOf_byte (op := 0xE7#8) (f := .isbZp0) (fun _ _ => rfl) b _
  | .sbcImm b => instrOf_byte (op := 0xE9#8) (f := .sbcImm) (fun _ _ => rfl) b _
  | .sbcImm_EB b => instrOf_byte (op := 0xEB#8) (f := .sbcImm_EB) (fun _ _ => rfl) b _
  | .cpxAbs v => instrOf_word (op := 0xEC#8) (f := .cpxAbs) (fun _ _ => rfl) v
  | .sbcAbs v => instrOf_word (op := 0xED#8) (f := .sbcAbs) (fun _ _ => rfl) v
  | .incAbs v => instrOf_word (op := 0xEE#8) (f := .incAbs) (fun _ _ => rfl) v
  | .isbAbs v => instrOf_word (op := 0xEF#8) (f := .isbAbs) (fun _ _ => rfl) v
  | .beq b => instrOf_byte (op := 0xF0#8) (f := .beq) (fun _ _ => rfl) b _
  | .sbcIdy b => instrOf_byte (op := 0xF1#8) (f := .sbcIdy) (fun _ _ => rfl) b _
  | .isbIdy b => instrOf_byte (op := 0xF3#8) (f := .isbIdy) (fun _ _ => rfl) b _
  | .nopZpx_F4 b => instrOf_byte (op := 0xF4#8) (f := .nopZpx_F4) (fun _ _ => rfl) b _
  | .sbcZpx b => instrOf_byte (op := 0xF5#8) (f := .sbcZpx) (fun _ _ => rfl) b _
  | .incZpx b => instrOf_byte (op := 0xF6#8) (f := .incZpx) (fun _ _ => rfl) b _
  | .isbZpx b => instrOf_byte (op := 0xF7#8) (f := .isbZpx) (fun _ _ => rfl) b _
  | .sbcAby v => instrOf_word (op := 0xF9#8) (f := .sbcAby) (fun _ _ => rfl) v
  | .isbAby v => instrOf_word (op := 0xFB#8) (f := .isbAby) (fun _ _ => rfl) v
  | .nopAbx_FC v => instrOf_word (op := 0xFC#8) (f := .nopAbx_FC) (fun _ _ => rfl) v
  | .sbcAbx v => instrOf_word (op := 0xFD#8) (f := .sbcAbx) (fun _ _ => rfl) v
  | .incAbx v => instrOf_word (op := 0xFE#8) (f := .incAbx) (fun _ _ => rfl) v
  | .isbAbx v => instrOf_word (op := 0xFF#8) (f := .isbAbx) (fun _ _ => rfl) v
  | .xxx_02 => (rfl : instrOf 0x02#8 _ _ = _)
  | .php => (rfl : instrOf 0x08#8 _ _ = _)
  | .aslAcc => (rfl : instrOf 0x0A#8 _ _ = _)
  | .xxx_12 => (rfl : instrOf 0x12#8 _ _ = _)
  | .clc => (rfl : instrOf 0x18#8 _ _ = _)
  | .nopImp_1A => (rfl : instrOf 0x1A#8 _ _ = _)
  | .xxx_22 => (rfl : instrOf 0x22#8 _ _ = _)
  | .plp => (rfl : instrOf 0x28#8 _ _ = _)
  | .rolAcc => (rfl : instrOf 0x2A#8 _ _ = _)
  | .xxx_32 => (rfl : instrOf 0x32#8 _ _ = _)
  | .sec => (rfl : instrOf 0x38#8 _ _ = _)
  | .nopImp_3A => (rfl : instrOf 0x3A#8 _ _ = _)
  | .rti => (rfl : instrOf 0x40#8 _ _ = _)
  | .xxx_42 => (rfl : instrOf 0x42#8 _ _ = _)
  | .pha => (rfl : instrOf 0x48#8 _ _ = _)
  | .lsrAcc => (rfl : instrOf 0x4A#8 _ _ = _)
  | .xxx_52 => (rfl : instrOf 0x52#8 _ _ = _)
  | .cli => (rfl : instrOf 0x58#8 _ _ = _)
  | .nopImp_5A => (rfl : instrOf 0x5A#8 _ _ = _)
  | .rts => (rfl : instrOf 0x60#8 _ _ = _)
  | .xxx_62 => (rfl : instrOf 0x62#8 _ _ = _)
  | .pla => (rfl : instrOf 0x68#8 _ _ = _)
  | .rorAcc => (rfl : instrOf 0x6A#8 _ _ = _)
  | .xxx_72 => (rfl : instrOf 0x72#8 _ _ = _)
  | .sei => (rfl : instrOf 0x78#8 _ _ = _)
  | .nopImp_7A => (rfl : instrOf 0x7A#8 _ _ = _)
  | .dey => (rfl : instrOf 0x88#8 _ _ = _)
  | .txa => (rfl : instrOf 0x8A#8 _ _ = _)
  | .xxx_92 => (rfl : instrOf 0x92#8 _ _ = _)
  | .tya => (rfl : instrOf 0x98#8 _ _ = _)
  | .txs => (rfl : instrOf 0x9A#8 _ _ = _)
  | .tay => (rfl : instrOf 0xA8#8 _ _ = _)
  | .tax => (rfl : instrOf 0xAA#8 _ _ = _)
  | .xxx_B2 => (rfl : instrOf 0xB2#8 _ _ = _)
  | .clv => (rfl : instrOf 0xB8#8 _ _ = _)
  | .tsx => (rfl : instrOf 0xBA#8 _ _ = _)
  | .iny => (rfl : instrOf 0xC8#8 _ _ = _)
  | .dex => (rfl : instrOf 0xCA#8 _ _ = _)
  | .xxx_D2 => (rfl : instrOf 0xD2#8 _ _ = _)
  | .cld => (rfl : instrOf 0xD8#8 _ _ = _)
  | .nopImp_DA => (rfl : instrOf 0xDA#8 _ _ = _)
  | .inx => (rfl : instrOf 0xE8#8 _ _ = _)
  | .nop => (rfl : instrOf 0xEA#8 _ _ = _)
  | .xxx_F2 => (rfl : instrOf 0xF2#8 _ _ = _)
  | .sed => (rfl : instrOf 0xF8#8 _ _ = _)
  | .nopImp_FA => (rfl : instrOf 0xFA#8 _ _ = _)

/-- The operand word two bytes stand for, by the number of operand bytes. -/
def operandOf (n : Nat) (b1 b2 : Byte) : Word :=
  match n with
  | 0 => 0
  | 1 => zext16 b1
  | _ => mk16 b2 b1

/-- The instruction in a row and column: its opcode, and the operand of its mode. -/
def RowOk (row : Nat) (instrRow : Byte → Byte → Nat → Instr) : Prop :=
  ∀ b1 b2 n, n < 16 → (instrRow b1 b2 n).opcode = BitVec.ofNat 8 (16 * row + n) ∧
    (instrRow b1 b2 n).operand =
      operandOf (table (BitVec.ofNat 8 (16 * row + n))).mode.operandBytes b1 b2

theorem row0_ok : RowOk 0 instrRow0 := by
  intro b1 b2 n hn
  interval_cases n <;> exact ⟨rfl, rfl⟩

theorem row1_ok : RowOk 1 instrRow1 := by
  intro b1 b2 n hn
  interval_cases n <;> exact ⟨rfl, rfl⟩

theorem row2_ok : RowOk 2 instrRow2 := by
  intro b1 b2 n hn
  interval_cases n <;> exact ⟨rfl, rfl⟩

theorem row3_ok : RowOk 3 instrRow3 := by
  intro b1 b2 n hn
  interval_cases n <;> exact ⟨rfl, rfl⟩

theorem row4_ok : RowOk 4 instrRow4 := by
  intro b1 b2 n hn
  interval_cases n <;> exact ⟨rfl, rfl⟩

theorem row5_ok : RowOk 5 instrRow5 := by
  intro b1 b2 n hn
  interval_cases n <;> exact ⟨rfl, rfl⟩

theorem row6_ok : RowOk 6 instrRow6 := by
  intro b1 b2 n hn
  interval_cases n <;> exact ⟨rfl, rfl⟩

theorem row7_ok : RowOk 7 instrRow7 := by
  intro b1 b2 n hn
  interval_cases n <;> exact ⟨rfl, rfl⟩

theorem row8_ok : RowOk 8 instrRow8 := by
  intro b1 b2 n hn
  interval_cases n <;> exact ⟨rfl, rfl⟩

theorem row9_ok : RowOk 9 instrRow9 := by
  intro b1 b2 n hn
  interval_cases n <;> exact ⟨rfl, rfl⟩

theorem rowA_ok : RowOk 10 instrRowA := by
  intro b1 b2 n hn
  interval_cases n <;> exact ⟨rfl, rfl⟩

theorem rowB_ok : RowOk 11 instrRowB := by
  intro b1 b2 n hn
  interval_cases n <;> exact ⟨rfl, rfl⟩

theorem rowC_ok : RowOk 12 instrRowC := by
  intro b1 b2 n hn
  interval_cases n <;> exact ⟨rfl, rfl⟩

theorem rowD_ok : RowOk 13 instrRowD := by
  intro b1 b2 n hn
  interval_cases n <;> exact ⟨rfl, rfl⟩

theorem rowE_ok : RowOk 14 instrRowE := by
  intro b1 b2 n hn
  interval_cases n <;> exact ⟨rfl, rfl⟩

theorem rowF_ok : RowOk 15 instrRowF := by
  intro b1 b2 n hn
  interval_cases n <;> exact ⟨rfl, rfl⟩

/-- The instruction of an opcode has that opcode, and the operand of its mode. -/
theorem instrOf_spec (op b1 b2 : Byte) :
    (instrOf op b1 b2).opcode = op ∧
    (instrOf op b1 b2).operand = operandOf (table op).mode.operandBytes b1 b2 := by
  have hop : op = BitVec.ofNat 8 (16 * (op.toNat / 16) + op.toNat % 16) := by
    apply BitVec.eq_of_toNat_eq
    have := op.isLt
    simp only [BitVec.toNat_ofNat]
    omega
  have hlt : op.toNat / 16 < 16 := by have := op.isLt; omega
  have hmod : op.toNat % 16 < 16 := Nat.mod_lt _ (by omega)
  unfold instrOf
  conv => rhs; rhs; rw [hop]
  conv => lhs; rhs; rw [hop]
  generalize op.toNat % 16 = n at *
  generalize op.toNat / 16 = r at *
  interval_cases r
  · exact row0_ok b1 b2 n hmod
  · exact row1_ok b1 b2 n hmod
  · exact row2_ok b1 b2 n hmod
  · exact row3_ok b1 b2 n hmod
  · exact row4_ok b1 b2 n hmod
  · exact row5_ok b1 b2 n hmod
  · exact row6_ok b1 b2 n hmod
  · exact row7_ok b1 b2 n hmod
  · exact row8_ok b1 b2 n hmod
  · exact row9_ok b1 b2 n hmod
  · exact rowA_ok b1 b2 n hmod
  · exact rowB_ok b1 b2 n hmod
  · exact rowC_ok b1 b2 n hmod
  · exact rowD_ok b1 b2 n hmod
  · exact rowE_ok b1 b2 n hmod
  · exact rowF_ok b1 b2 n hmod

/-- No instruction has more than two operand bytes. -/
theorem operandBytes_le (b : Byte) : (table b).mode.operandBytes ≤ 2 := by revert b; decide

/-- The decoder reads of its operand bytes what the opcode's operand takes, and nothing else. -/
theorem instrOf_irrel {op b1 b2 c1 c2 : Byte}
    (h : operandOf (table op).mode.operandBytes b1 b2 = operandOf (table op).mode.operandBytes c1 c2) :
    instrOf op b1 b2 = instrOf op c1 c2 := by
  have h1 := instrOf_spec op b1 b2
  have h2 := instrOf_spec op c1 c2
  rw [← instrOf_opcode (instrOf op b1 b2), ← instrOf_opcode (instrOf op c1 c2), h1.1, h1.2, h2.1,
    h2.2, h]

/-- The encoding of an instruction: its opcode, and operand bytes from which the decoder makes it. -/
theorem encode_eq (i : Instr) :
    ∃ tl, encode i = i.opcode :: tl ∧ tl.length = (table i.opcode).mode.operandBytes ∧
      instrOf i.opcode (tl.getD 0 0) (tl.getD 1 0) = i := by
  have h2 := operandBytes_le i.opcode
  have hirr := @instrOf_irrel i.opcode
  have hi := instrOf_opcode i
  unfold encode Instr.entry
  generalize (table i.opcode).mode.operandBytes = n at *
  match n, h2 with
  | 0, _ => exact ⟨[], rfl, rfl, (@hirr 0 0 (lo i.operand) (Sys2Proof.hi i.operand) rfl).trans hi⟩
  | 1, _ =>
    exact ⟨[_], rfl, rfl, (@hirr (lo i.operand) 0 (lo i.operand) (Sys2Proof.hi i.operand) rfl).trans hi⟩
  | 2, _ => exact ⟨[_, _], rfl, rfl, hi⟩

end Sys2Proof
end

