-- ==== Sys2Proof/Laws/Modes.lean ====
section
/-!
SUPPORT. What a mode routine can do, once for all thirteen (40_addressing_modes.md R132 to R145): it
touches latches and bus only, by a run of read cycles, and leaves the effective address of
Safety.lean.
-/

namespace Sys2Proof.Machine

/-! ## Reads as state changes -/

theorem memRead_eq (addr : Word) (s : State) :
    memRead addr s = ((s.bus.read s.p.i addr).1, { s with bus := (s.bus.read s.p.i addr).2 }) := rfl

theorem dummyRead_eq (addr : Word) (s : State) :
    dummyRead addr s = { s with bus := (s.bus.read s.p.i addr).2 } := rfl

theorem read_runs {b c : Bus} (h : BusRun DmaWrites b c) (i : Bool) (addr : Word) :
    BusRun DmaWrites b (c.read i addr).2 := h.trans (read_run i addr c)

/-- The zero-page pointer read. -/
theorem memRead16Zp_spec (z : Byte) (s : State) :
    ∃ b, memRead16Zp z s = (s.zpPointer z, { s with bus := b }) ∧ BusRun DmaWrites s.bus b := by
  refine ⟨_, ?_, read_runs (read_run s.p.i (zext16 z) s.bus) s.p.i (zext16 (z + 1))⟩
  simp only [memRead16Zp, memRead_eq, State.zpPointer, State.ram,
    read_val_ram _ _ (zext16_ram _), read_mem]

/-- `Indexed` (R145). -/
theorem indexed_spec (w : Word) (x : Byte) (k : Kind) (s : State) :
    ∃ l b, indexed w x k s = { s with latches := l, bus := b } ∧ BusRun DmaWrites s.bus b ∧
      l.absAddr = w + zext16 x ∧ l.base = w ∧
      l.pageCrossed = decide (hi (w + zext16 x) ≠ hi w) := by
  unfold indexed
  dsimp only
  split
  · exact ⟨_, _, rfl, read_run _ _ _, rfl, rfl, rfl⟩
  · exact ⟨_, _, rfl, .refl, rfl, rfl, rfl⟩

/-- IndirectX (R143). -/
theorem modeIdx_spec (z : Byte) (s : State) :
    ∃ l b, modeIdx z s = { s with latches := l, bus := b } ∧ BusRun DmaWrites s.bus b ∧
      l.absAddr = s.zpPointer (z + s.x) ∧ l.pageCrossed = false := by
  unfold modeIdx
  obtain ⟨b, h, hr⟩ := memRead16Zp_spec (z + s.x) (dummyRead (zext16 z) s)
  have hz : (dummyRead (zext16 z) s).zpPointer (z + s.x) = s.zpPointer (z + s.x) := by
    simp only [State.zpPointer, State.ram, dummyRead_eq, read_mem]
  rw [hz] at h
  refine ⟨{ s.latches with absAddr := s.zpPointer (z + s.x), pageCrossed := false }, b, ?_,
    (read_run s.p.i (zext16 z) s.bus).trans hr, rfl, rfl⟩
  rw [h]
  rfl

/-- The pointer read with the page wrap (20_memory.md R88). -/
theorem memRead16Bug_eq (p : Word) (s : State) :
    memRead16Bug p s =
      (mk16 ((s.bus.read s.p.i p).2.read s.p.i (mk16 (hi p) (lo p + 1))).1 (s.bus.read s.p.i p).1,
        { s with bus := ((s.bus.read s.p.i p).2.read s.p.i (mk16 (hi p) (lo p + 1))).2 }) := rfl

/-- Indirect (R142). -/
theorem modeInd_spec (p : Word) (s : State) :
    ∃ l b, modeInd p s = { s with latches := l, bus := b } ∧ BusRun DmaWrites s.bus b := by
  unfold modeInd
  rw [memRead16Bug_eq]
  exact ⟨_, _, rfl, read_runs (read_run s.p.i p s.bus) s.p.i (mk16 (hi p) (lo p + 1))⟩

/-! ## The mode routine -/

/-- What the latches hold after the mode routine, as far as the operation reads them. -/
def LatchesReady (i : Instr) (s : State) (l : Latches) : Prop :=
  (i.entry.mode ∉ [.IMP, .ACC, .REL, .IND] → l.absAddr = effAddr i s) ∧
  (i.entry.mode = .IMM → l.fetchedData = operandByte i) ∧
  (i.entry.mode = .REL → l.relAddr = operandByte i) ∧
  (i.entry.mode ∈ [.ABX, .ABY, .IDY] → l.base = indexBase i s) ∧
  (i.entry.mode ∉ [.IND] → l.pageCrossed = crossesPage i s)

/-- The modes that make no cycle of their own. -/
def silentModes : List AddrMode := [.IMM, .ZP0, .REL, .ABS]

theorem modeRun_spec (i : Instr) (s : State) :
    ∃ l b, modeRun i.entry i.operand s = { s with latches := l, bus := b } ∧
      BusRun DmaWrites s.bus b ∧ LatchesReady i s l ∧ (i.entry.mode ∈ silentModes → b = s.bus) := by
  unfold modeRun LatchesReady silentModes effAddr indexBase crossesPage operandByte
  unfold effAddr indexBase operandByte
  cases hm : i.entry.mode <;> dsimp only
  case IMP => exact ⟨_, _, rfl, read_run _ _ _, by simp [noEa], by simp⟩
  case ACC => exact ⟨_, _, rfl, read_run _ _ _, by simp [noEa], by simp⟩
  case IMM => exact ⟨_, _, rfl, .refl, by simp [setEa], by simp [setEa]⟩
  case ZP0 => exact ⟨_, _, rfl, .refl, by simp, by simp⟩
  case ZPX => exact ⟨_, _, rfl, read_run _ _ _, by simp, by simp⟩
  case ZPY => exact ⟨_, _, rfl, read_run _ _ _, by simp, by simp⟩
  case REL => exact ⟨_, _, rfl, .refl, by simp, by simp⟩
  case ABS => exact ⟨_, _, rfl, .refl, by simp, by simp⟩
  case ABX =>
    obtain ⟨l, b, h, hr, h1, h2, h3⟩ := indexed_spec i.operand s.x i.entry.kind s
    exact ⟨l, b, h, hr, by simp [h1, h2, h3], by simp⟩
  case ABY =>
    obtain ⟨l, b, h, hr, h1, h2, h3⟩ := indexed_spec i.operand s.y i.entry.kind s
    exact ⟨l, b, h, hr, by simp [h1, h2, h3], by simp⟩
  case IDX =>
    obtain ⟨l, b, h, hr, h1, h2⟩ := modeIdx_spec (lo i.operand) s
    exact ⟨l, b, h, hr, by simp [h1, h2], by simp⟩
  case IDY =>
    obtain ⟨b, h, hr⟩ := memRead16Zp_spec (lo i.operand) s
    obtain ⟨l, b', h', hr', h1, h2, h3⟩ :=
      indexed_spec (s.zpPointer (lo i.operand)) s.y i.entry.kind { s with bus := b }
    refine ⟨l, b', ?_, hr.trans hr', by simp [h1, h2, h3], by simp⟩
    simp only [modeIdy, h]
    exact h'
  case IND =>
    obtain ⟨l, b, h, hr⟩ := modeInd_spec i.operand s
    exact ⟨l, b, h, hr, by simp, by simp⟩

end Sys2Proof.Machine
end

