-- ==== Sys2Proof/Laws/Results.lean ====
section
/-!
SUPPORT. What each kind of instruction can do, once per kind: `exec_read`, `exec_store`, `exec_rmw`,
`exec_acc`, `exec_implied` say what is left to compute after the mode routine and the operand
accesses; a statement about an operation then only has to compare its effect on registers and flags.
-/

namespace Sys2Proof.Machine

/-! ## The kinds of the table -/

/-- The kind the table gives an operation: by the operation alone, but for the accumulator forms of the
shifts and the one-byte NOP (30_encoding.md R111). -/
def kindOf (o : Operation) (m : AddrMode) : Kind :=
  match o with
  | .STA => .store | .STX => .store | .STY => .store | .SAX => .store
  | .AHX => .store | .TAS => .store | .SHX => .store | .SHY => .store
  | .INC => .rmw | .DEC => .rmw | .SLO => .rmw | .RLA => .rmw
  | .SRE => .rmw | .RRA => .rmw | .DCP => .rmw | .ISB => .rmw
  | .ASL => if m = .ACC then .acc else .rmw
  | .LSR => if m = .ACC then .acc else .rmw
  | .ROL => if m = .ACC then .acc else .rmw
  | .ROR => if m = .ACC then .acc else .rmw
  | .NOP => if m = .IMP then .implied else .read
  | .BCC => .branch | .BCS => .branch | .BEQ => .branch | .BNE => .branch
  | .BMI => .branch | .BPL => .branch | .BVC => .branch | .BVS => .branch
  | .JMP => .jump | .JSR => .jump
  | .BRK => .brk
  | .LDA => .read | .LDX => .read | .LDY => .read | .LAX => .read | .ADC => .read | .SBC => .read
  | .AND => .read | .ORA => .read | .EOR => .read | .BIT => .read | .CMP => .read | .CPX => .read
  | .CPY => .read | .ANC => .read | .ALR => .read | .ARR => .read | .AXS => .read | .XAA => .read
  | .LAS => .read
  | _ => .implied

theorem table_kind : ∀ b : Byte,
    (table b).kind = kindOf (table b).operation (table b).mode := by decide

theorem entry_kind (i : Instr) : i.entry.kind = kindOf i.entry.operation i.entry.mode :=
  table_kind i.opcode

theorem kind_of (i : Instr) {o : Operation} (h : i.entry.operation = o) :
    i.entry.kind = kindOf o i.entry.mode := by rw [entry_kind, h]

/-- Which modes go with which kinds. -/
def kindMode (k : Kind) (m : AddrMode) : Bool :=
  match k with
  | .read => decide (m ∉ [.IMP, .ACC, .REL, .IND])
  | .store => decide (m ∉ [.IMP, .ACC, .REL, .IND, .IMM])
  | .rmw => decide (m ∉ [.IMP, .ACC, .REL, .IND, .IMM])
  | .acc => decide (m = .ACC)
  | .implied => decide (m = .IMP)
  | .branch => decide (m = .REL)
  | .jump => decide (m = .ABS ∨ m = .IND)
  | .brk => decide (m = .IMM)

theorem table_kindMode : ∀ b : Byte, kindMode (table b).kind (table b).mode = true := by decide

theorem entry_kindMode (i : Instr) : kindMode i.entry.kind i.entry.mode = true :=
  table_kindMode i.opcode

/-- The modes of the unstable stores. -/
theorem entry_unstable (i : Instr) (h : isUnstable i.entry.operation = true) :
    i.entry.mode ∈ [.ABX, .ABY, .IDY] := by
  have : ∀ b : Byte, isUnstable (table b).operation = true →
      (table b).mode ∈ [AddrMode.ABX, .ABY, .IDY] := by decide
  exact this i.opcode h

/-! ## Reading -/

/-- A read yields a byte it may yield, in any state whose bus has come from `s` by a run. -/
theorem read_mustRead {s : State} {b : Bus} (h : BusRun DmaWrites s.bus b) (i : Bool) (addr : Word) :
    MustRead s addr (b.read i addr).1 := by
  have hm := h.mem_eq dmaWrites_memKey
  rintro (hr | ⟨hc, hp, hw⟩)
  · rw [read_val_ram i b hr, hm]
    simp [State.shown, State.ram, hr]
  · have hpl := h.plain hp
    have : ¬ addr.toNat < 0x2000 := by omega
    rw [read_val_cart i b hc hpl.1 (by rw [hpl.2]; exact hw), hm]
    simp [State.shown, this]

/-- A read-kind instruction. -/
theorem exec_read (i : Instr) (s : State) (hk : i.entry.kind = .read) :
    ∃ v l b, exec i s = .next (readEffect i.entry v { s with latches := l, bus := b }) ∧
      b.mem = s.bus.mem ∧
      if i.entry.mode = .IMM then v = operandByte i ∧ b = s.bus
      else (∃ rest, b.trace = .read (effAddr i s) v :: rest) ∧ MustRead s (effAddr i s) v := by
  obtain ⟨l, b, hrun, hb, hl, hs⟩ := modeRun_spec i s
  have hmode := entry_kindMode i
  rw [hk] at hmode
  have hea := hl.1 (by simpa [kindMode] using hmode)
  rw [exec_table, hrun]
  unfold opRun
  rw [hk]
  by_cases hi : i.entry.mode = .IMM
  · simp only [hi, if_true]
    refine ⟨operandByte i, l, b, ?_, ?_, rfl, ?_⟩
    · simp only [immOp, hl.2.1 hi]
    · exact hb.mem_eq dmaWrites_memKey
    · exact hs (by simp [hi, silentModes])
  · simp only [hi, if_false]
    refine ⟨(b.read s.p.i (effAddr i s)).1, { l with fetchedData := (b.read s.p.i (effAddr i s)).1 },
      (b.read s.p.i (effAddr i s)).2, ?_, ?_, read_trace _ _ _, read_mustRead hb _ _⟩
    · simp only [readOp, hea, memRead_eq]
      rfl
    · rw [read_mem]
      exact hb.mem_eq dmaWrites_memKey

/-- A read-kind instruction, as the statements say it. -/
theorem exec_readsThen (i : Instr) (s : State) (hk : i.entry.kind = .read) (r : Byte → State)
    (h : ∀ v l b, readEffect i.entry v { s with latches := l, bus := b } =
      { r v with latches := l, bus := b }) : ReadsThen i s r := by
  obtain ⟨v, l, b, he, hm, hr⟩ := exec_read i s hk
  refine ⟨v, { r v with latches := l, bus := b }, ?_, ⟨hm, hr⟩, rfl⟩
  rw [he, h]

/-! ## Writing -/

theorem storedAt_writeCycle {s : State} {b : Bus} (h : BusRun DmaWrites s.bus b) (i : Bool)
    (addr : Word) (v : Byte) (hp : CartPlain s ∨ addr.toNat < 0x4020) :
    StoredAt addr v s.bus.windows s.bus.mem (b.writeCycle i addr v).mem := by
  have hm := h.mem_eq dmaWrites_memKey
  intro k
  rw [writeCycle_mem, ← hm]
  by_cases hr : addr.toNat < 0x2000
  · rw [busWrite, busTarget_ram hr, memKey_ram hr]
    simp only [beginCycle_mem, Memory.byteAt_set, hr, true_or, and_true]
    by_cases hk : k = addr.toNat % 0x800
    · simp [hk]
    · have : ¬ (some (addr.toNat % 0x800) = some k) := by simpa using fun h => hk h.symm
      simp [hk, this]
  · by_cases hc : 0x4020 ≤ addr.toNat
    · have hpl : CartPlain s := hp.resolve_right (by omega)
      have hb := h.plain hpl
      have hw : (beginCycle b).windows = s.bus.windows :=
        ((catchUp_plain (b := { b with cycle := b.cycle + 1 }) hb.1).2.1).trans hb.2
      rw [busWrite, busTarget_cart hc, memKey_cart hc, hw]
      cases hacc : windowAccess s.bus.windows addr.toNat
      · simp [hr]
      · simp [hr]
      · simp only [beginCycle_mem, Memory.byteAt_set, or_true, and_true]
        by_cases hk : k = addr.toNat
        · simp [hk]
        · have : ¬ (some addr.toNat = some k) := by simpa using fun h => hk h.symm
          simp [hk, this]
    · have hn : memKey addr = none := memKey_device (by omega) (by omega)
      rw [busWrite_mem_of_memKey_none hn, hn]
      simp

/-- Two writes at one address in a row: the second byte stays. -/
theorem storedAt_twice {s : State} {b : Bus} (h : BusRun DmaWrites s.bus b) (i i' : Bool)
    (addr : Word) (v w : Byte) (hp : CartPlain s ∨ addr.toNat < 0x4020) :
    StoredAt addr w s.bus.windows s.bus.mem ((b.writeCycle i addr v).writeCycle i' addr w).mem := by
  have h1 := storedAt_writeCycle h i addr v hp
  intro k
  by_cases hk : memKey addr = some k
  · by_cases hr : addr.toNat < 0x2000
    · rw [writeCycle_mem_ram i' w _ hr]
      rw [memKey_ram hr] at hk ⊢
      obtain rfl : addr.toNat % 0x800 = k := by simpa using hk
      simp [hr]
    · have hc : 0x4020 ≤ addr.toNat := by
        by_contra hc
        rw [memKey_device (by omega) (by omega)] at hk
        exact absurd hk (by simp)
      have hpl : CartPlain s := hp.resolve_right (by omega)
      have hb : (b.writeCycle i addr v).plain ∧ (b.writeCycle i addr v).windows = s.bus.windows :=
        BusRun.plain (W := fun _ => True) ((h.mono fun _ _ => trivial).write i v trivial) hpl
      have hw : (beginCycle (b.writeCycle i addr v)).windows = s.bus.windows :=
        ((catchUp_plain
          (b := { b.writeCycle i addr v with cycle := (b.writeCycle i addr v).cycle + 1 })
          hb.1).2.1).trans hb.2
      have hb1 := h1 k
      rw [writeCycle_mem, busWrite, busTarget_cart hc, hw]
      rw [memKey_cart hc] at hk hb1 ⊢
      obtain rfl : addr.toNat = k := by simpa using hk
      cases hacc : windowAccess s.bus.windows addr.toNat
      · simpa [hacc, hr] using hb1
      · simpa [hacc, hr] using hb1
      · simp
  · rw [writeCycle_byteAt_ne i' w _ hk, h1 k]
    simp [hk]

/-- A write cycle at the end of a run is the store `StoredOperand` speaks of. -/
theorem storedOperand_writeCycle {s t : State} {b : Bus} (h : BusRun DmaWrites s.bus b) (i : Bool)
    (addr : Word) (v : Byte) (ht : t.bus = b.writeCycle i addr v) : StoredOperand addr s t v := by
  refine ⟨⟨b.trace, by rw [ht, writeCycle_trace]⟩, fun hp => ?_, fun k hk => ?_⟩
  · rw [ht]
    exact storedAt_writeCycle h i addr v hp
  · rw [ht, writeCycle_byteAt_ne i v b hk, h.mem_eq dmaWrites_memKey]

/-- A store-kind instruction that is not one of the unstable four. -/
theorem exec_store (i : Instr) (s : State) (hk : i.entry.kind = .store) (value : State → Byte)
    (hr : storeRun i.entry.operation = storeOp value)
    (hv : ∀ l b, value { s with latches := l, bus := b } = value s) :
    StoresThen i s (effAddr i s) (value s) s := by
  obtain ⟨l, b, hrun, hb, hl, -⟩ := modeRun_spec i s
  have hmode := entry_kindMode i
  rw [hk] at hmode
  have hea := hl.1 (by
    simp only [kindMode, decide_eq_true_eq] at hmode
    intro h; exact hmode (by simp at h ⊢; tauto))
  refine ⟨{ s with latches := l, bus := b.writeCycle s.p.i (effAddr i s) (value s) }, ?_,
    storedOperand_writeCycle hb _ _ _ rfl, rfl⟩
  rw [exec_table, hrun]
  simp only [opRun, hk, hr, storeOp, hea, hv, memWrite]
  rfl

/-- The address and the byte of an unstable store are those of Safety.lean. -/
theorem unstable_spec (i : Instr) (s s' : State) (r : Byte)
    (hu : isUnstable i.entry.operation = true)
    (hr : r = unstableReg i.entry.operation s) (hl : LatchesReady i s s'.latches) :
    unstableValue r s' = unstableByte i s ∧ unstableAddr r s' = storeAddr i s := by
  have hm := entry_unstable i hu
  have hbase := hl.2.2.2.1 hm
  have hea := hl.1 (by simp at hm ⊢; rcases hm with h | h | h <;> simp [h])
  have hpc := hl.2.2.2.2 (by simp at hm ⊢; rcases hm with h | h | h <;> simp [h])
  have hv : unstableValue r s' = unstableByte i s := by
    simp [unstableValue, unstableByte, hbase, hr]
  refine ⟨hv, ?_⟩
  simp only [unstableAddr, storeAddr, hv, hpc, hea, hu, Bool.true_and]

/-- An unstable store: `rs` gives the registers it leaves. -/
theorem exec_unstable (i : Instr) (s : State) (hu : isUnstable i.entry.operation = true)
    (rs : State → State)
    (hrs : ∀ l b, rs { s with latches := l, bus := b } = { rs s with latches := l, bus := b })
    (hp : (rs s).p = s.p)
    (hrun' : ∀ s', storeRun i.entry.operation s' =
      unstableStore (unstableReg i.entry.operation s') (rs s')) :
    StoresThen i s (storeAddr i s) (unstableByte i s) (rs s) := by
  obtain ⟨l, b, hrun, hb, hl, -⟩ := modeRun_spec i s
  have hk : i.entry.kind = .store := by
    have : ∀ b : Byte, isUnstable (table b).operation = true → (table b).kind = .store := by decide
    exact this i.opcode hu
  have hreg : ∀ l b, unstableReg i.entry.operation { s with latches := l, bus := b } =
      unstableReg i.entry.operation s := by
    intro l b; unfold unstableReg; split <;> rfl
  obtain ⟨hv, ha⟩ := unstable_spec i s { rs s with latches := l, bus := b }
    (unstableReg i.entry.operation s) hu rfl hl
  let b' := b.writeCycle s.p.i (storeAddr i s) (unstableByte i s)
  refine ⟨{ rs s with latches := l, bus := b' }, ?_, storedOperand_writeCycle hb _ _ _ rfl, rfl⟩
  rw [exec_table, hrun]
  simp only [opRun, hk]
  rw [hrun', hrs, hreg, unstableStore, ha, hv]
  simp only [memWrite, State.setBus, hp, b']

/-! ## Reading, then writing -/

/-- A read-modify-write instruction with new-value function `f`. -/
theorem exec_rmw (i : Instr) (s : State) (hk : i.entry.kind = .rmw) (r : Byte → Byte × State)
    (hf : ∀ v l b, modifyFn i.entry.operation v { s with latches := l, bus := b } =
      ((r v).1, { (r v).2 with latches := l, bus := b })) :
    ModifiesThen i s r := by
  obtain ⟨l, b, hrun, hb, hl, -⟩ := modeRun_spec i s
  have hmode := entry_kindMode i
  rw [hk] at hmode
  have hea := hl.1 (by
    simp only [kindMode, decide_eq_true_eq] at hmode
    intro h; exact hmode (by simp at h ⊢; tauto))
  generalize hv : (b.read s.p.i (effAddr i s)).1 = v
  have hmr : MustRead s (effAddr i s) v := hv ▸ read_mustRead hb s.p.i (effAddr i s)
  generalize hb1 : (b.read s.p.i (effAddr i s)).2 = b1
  have hr1 : BusRun DmaWrites s.bus b1 := hb1 ▸ read_runs hb s.p.i (effAddr i s)
  obtain ⟨rest, ht1⟩ := read_trace s.p.i (effAddr i s) b
  rw [hb1, hv] at ht1
  generalize hb2 : b1.writeCycle s.p.i (effAddr i s) v = b2
  generalize hb3 : b2.writeCycle (r v).2.p.i (effAddr i s) (r v).1 = b3
  have hst2 := storedOperand_writeCycle (t := { s with bus := b2 }) hr1 s.p.i (effAddr i s) v hb2.symm
  refine ⟨v, { (r v).2 with latches := l, bus := b3 }, ?_, ⟨⟨rest, ?_⟩, hmr, ?_, ?_⟩, rfl⟩
  · rw [exec_table, hrun]
    simp only [opRun, hk, rmwOp, hea, memRead_eq, memWrite, State.setBus, hv, hb1, hb2, hf, hb3]
  · show b3.trace = _
    rw [← hb3, writeCycle_trace, ← hb2, writeCycle_trace, ht1]
  · intro hp
    show StoredAt _ _ _ _ b3.mem
    rw [← hb3, ← hb2]
    exact storedAt_twice hr1 _ _ _ _ _ hp
  · intro k hk'
    show Memory.byteAt b3.mem k = _
    rw [← hb3, writeCycle_byteAt_ne _ _ _ hk', ← hb2, writeCycle_byteAt_ne _ _ _ hk',
      hr1.mem_eq dmaWrites_memKey]

/-- An accumulator instruction. -/
theorem exec_acc (i : Instr) (s : State) (hk : i.entry.kind = .acc) (r : Byte × State)
    (hf : ∀ l b, modifyFn i.entry.operation s.a { s with latches := l, bus := b } =
      (r.1, { r.2 with latches := l, bus := b })) :
    RunsTo i s { r.2 with a := r.1 } := by
  obtain ⟨l, b, hrun, hb, -, -⟩ := modeRun_spec i s
  refine ⟨{ r.2 with a := r.1, latches := l, bus := b }, ?_, hb.mem_eq dmaWrites_memKey, rfl⟩
  rw [exec_table, hrun]
  simp only [opRun, hk, accOp, hf]
  rfl

/-- An implied instruction whose routine makes no bus access of its own. -/
theorem exec_implied (i : Instr) (s r : State) (hk : i.entry.kind = .implied)
    (hf : ∀ l b, impliedRun i.entry.operation { s with latches := l, bus := b } =
      { r with latches := l, bus := b }) :
    RunsTo i s r := by
  obtain ⟨l, b, hrun, hb, -, -⟩ := modeRun_spec i s
  refine ⟨{ r with latches := l, bus := b }, ?_, hb.mem_eq dmaWrites_memKey, rfl⟩
  rw [exec_table, hrun]
  simp only [opRun, hk, hf]

end Sys2Proof.Machine
end

