-- ==== Sys2Proof/Laws/Stack.lean ====
section
/-!
SUPPORT. Pushes and pulls (40_addressing_modes.md R149): what they do to memory, what they yield, and
that they keep to the stack page.
-/

namespace Sys2Proof.Machine

theorem stackKey_eq (sp : Byte) : (stackAddr sp).toNat % 0x800 = stackKey sp := by
  rw [stackAddr_toNat, stackKey]
  have := sp.isLt
  omega

theorem stackKey_inj {p q : Byte} (h : stackKey p = stackKey q) : p = q := by
  apply BitVec.eq_of_toNat_eq
  simp only [stackKey] at h
  omega

theorem ram_stackAddr (s : State) (sp : Byte) :
    s.ram (stackAddr sp) = Memory.byteAt s.bus.mem (stackKey sp) := by
  rw [State.ram, stackKey_eq]

/-- A push. -/
theorem push_eq (v : Byte) (s : State) :
    push v s = { s with sp := s.sp - 1, bus := s.bus.writeCycle s.p.i (stackAddr s.sp) v } := rfl

/-- The memory after a push's write. -/
theorem push_mem (i : Bool) (sp v : Byte) (b : Bus) :
    (b.writeCycle i (stackAddr sp) v).mem = Memory.set b.mem (stackKey sp) v := by
  rw [writeCycle_mem_ram i v b (stackAddr_ram sp), stackKey_eq]

/-- A pull. -/
theorem pull_eq (s : State) :
    pull s = (s.ram (stackAddr (s.sp + 1)),
      { s with sp := s.sp + 1, bus := (s.bus.read s.p.i (stackAddr (s.sp + 1))).2 }) := by
  have h : (s.bus.read s.p.i (stackAddr (s.sp + 1))).1 = s.ram (stackAddr (s.sp + 1)) :=
    read_val_ram _ _ (stackAddr_ram _)
  rw [← h]
  rfl

/-- `ram` looks at memory alone. -/
theorem ram_congr {s t : State} (h : t.bus.mem = s.bus.mem) (a : Word) : t.ram a = s.ram a := by
  simp only [State.ram, h]

/-- A 16-bit pull: both bytes are those memory holds. -/
theorem pull16_spec (s : State) :
    ∃ b, pull16 s = (mk16 (s.ram (stackAddr (s.sp + 1 + 1))) (s.ram (stackAddr (s.sp + 1))),
        { s with sp := s.sp + 1 + 1, bus := b }) ∧ BusRun DmaWrites s.bus b := by
  refine ⟨_, ?_, read_runs (read_run s.p.i (stackAddr (s.sp + 1)) s.bus) s.p.i
    (stackAddr (s.sp + 1 + 1))⟩
  simp only [pull16, pull_eq]
  rw [ram_congr (s := s) (read_mem _ _ _)]

/-- The writes of a push. -/
def StackWrites (addr : Word) : Prop := ∃ sp, addr = stackAddr sp

/-- What pushing bytes one after another leaves in memory. -/
theorem pushedByte_set (m : Memory) (sp v : Byte) (vs : List Byte) (hl : vs.length < 255) (k : Nat) :
    pushedByte (Memory.set m (stackKey sp) v) (sp - 1) vs k = pushedByte m sp (v :: vs) k := by
  have key : ∀ (ws : List Byte) (q : Byte) (n : Nat), q = sp - BitVec.ofNat 8 n → 1 ≤ n →
      n + ws.length ≤ 255 →
      pushedByte (Memory.set m (stackKey sp) v) q ws k =
        if k = stackKey sp then v else pushedByte m q ws k := by
    intro ws
    induction ws with
    | nil => intro q n _ _ _; simp [pushedByte, Memory.byteAt_set]
    | cons w ws ih =>
      intro q n hq h1 hn
      simp only [List.length_cons] at hn
      have hne : stackKey q ≠ stackKey sp := by
        intro h
        have h2 := stackKey_inj h
        rw [hq] at h2
        have h3 := congrArg BitVec.toNat h2
        simp only [BitVec.toNat_sub, BitVec.toNat_ofNat] at h3
        have := sp.isLt
        omega
      simp only [pushedByte]
      rw [ih (q - 1) (n + 1) (by rw [hq]; bv_omega) (by omega) (by omega)]
      by_cases hk : k = stackKey q
      · simp [hk, hne]
      · simp [hk]
  rw [key vs (sp - 1) 1 (by rfl) (Nat.le_refl 1) (by omega)]
  rfl

theorem push16_eq (w : Word) (s : State) :
    push16 w s = { s with
      sp := s.sp - 1 - 1
      bus := (s.bus.writeCycle s.p.i (stackAddr s.sp) (hi w)).writeCycle s.p.i
        (stackAddr (s.sp - 1)) (lo w) } := rfl

end Sys2Proof.Machine
end

