-- ==== Sys2Proof/Laws/Exception.lean ====
section
/-!
SUPPORT. Taking an exception and returning from it: what the one shared entry sequence does, and what
the control transfers built on the stack do.
-/

namespace Sys2Proof.Machine

/-! ## Traces and cartridge bytes along a run -/

/-- A run only adds events. -/
theorem BusRun.trace_suffix {W : Word → Prop} {b c : Bus} (h : BusRun W b c) :
    ∃ evs, c.trace = evs ++ b.trace := by
  refine h.preserves (P := fun d => ∃ evs, d.trace = evs ++ b.trace) ⟨[], rfl⟩ ?_ ?_ ?_ ?_ ?_
  · rintro d i a ⟨evs, he⟩
    exact ⟨_ :: evs, by rw [readCycle_trace, he]; rfl⟩
  · rintro d i a v _ ⟨evs, he⟩
    exact ⟨_ :: evs, by rw [writeCycle_trace, he]; rfl⟩
  · rintro d i ⟨evs, he⟩
    exact ⟨_ :: evs, by rw [idleCycle_trace, he]; rfl⟩
  · rintro d _ _ _ _ _ h; exact h
  · rintro d _ _ _ h; exact h

/-- The last event of a read is the read; whatever came before it stays in the trace. -/
theorem read_trace_suffix (i : Bool) (addr : Word) (b : Bus) :
    ∃ evs, (b.read i addr).2.trace = .read addr (b.read i addr).1 :: (evs ++ b.trace) := by
  have h : ∀ c : Bus, (∃ evs, c.trace = evs ++ b.trace) →
      ∃ evs, (c.readCycle i addr).2.trace = .read addr (c.readCycle i addr).1 :: (evs ++ b.trace) := by
    rintro c ⟨evs, he⟩
    exact ⟨evs, by rw [readCycle_trace, he]⟩
  unfold Bus.read
  apply h
  split
  · exact (runDma_run i addr b).trace_suffix
  · exact ⟨[], rfl⟩

/-- The writes of an instruction that reach no cartridge byte. -/
def LowWrites (addr : Word) : Prop := addr.toNat < 0x4020

theorem dmaWrites_low (a : Word) (h : DmaWrites a) : LowWrites a := by
  subst h; unfold LowWrites; decide

theorem stackAddr_low (sp : Byte) : LowWrites (stackAddr sp) := by
  have := stackAddr_ram sp
  simp only [LowWrites]; omega

/-- A read of cartridge space yields what it may yield, after any writes below cartridge space. -/
theorem read_mustRead_cart {s : State} {b : Bus} (h : BusRun LowWrites s.bus b) (i : Bool)
    {addr : Word} (ha : 0x4020 ≤ addr.toNat) : MustRead s addr (b.read i addr).1 := by
  have hm : Memory.byteAt b.mem addr.toNat = Memory.byteAt s.bus.mem addr.toNat := by
    refine h.preserves (P := fun d => Memory.byteAt d.mem addr.toNat =
      Memory.byteAt s.bus.mem addr.toNat) rfl ?_ ?_ ?_ ?_ ?_
    · intro d i a h; rw [readCycle_mem]; exact h
    · intro d i a v hw h
      rw [writeCycle_byteAt_ne, h]
      intro hk
      by_cases hr : a.toNat < 0x2000
      · rw [memKey_ram hr] at hk
        have : a.toNat % 0x800 = addr.toNat := by simpa using hk
        omega
      · rw [memKey_device (by omega) hw] at hk
        exact absurd hk (by simp)
    · intro d i h; rw [idleCycle_mem]; exact h
    · intro d _ _ _ _ _ h; exact h
    · intro d _ _ _ h; exact h
  rintro (hr | ⟨-, hp, hw⟩)
  · omega
  · have hpl := h.plain hp
    have : ¬ addr.toNat < 0x2000 := by omega
    rw [read_val_cart i b ha hpl.1 (by rw [hpl.2]; exact hw), hm]
    simp [State.shown, this]

/-! ## The entry sequence (60_exceptions.md R315) -/

/-- The bus when an entry chooses its vector: after the two pushes of `PC`. -/
def choiceBus (s : State) : Bus :=
  (s.bus.writeCycle s.p.i (stackAddr s.sp) (hi s.pc)).writeCycle s.p.i (stackAddr (s.sp - 1))
    (lo s.pc)

/-- The bus when an entry reads its vector: the latch cleared, `P` pushed. -/
def entryBus (brk : Bool) (s : State) : Bus :=
  Bus.writeCycle s.p.i (stackAddr (s.sp - 1 - 1)) (s.p.pushByte brk)
    { choiceBus s with nmi := false }

/-- The vector an entry takes. -/
def entryVec (s : State) : Word := entryVector (choiceBus s).nmi

theorem memRead16_eq (addr : Word) (s : State) :
    memRead16 addr s =
      (mk16 ((s.bus.read s.p.i addr).2.read s.p.i (addr + 1)).1 (s.bus.read s.p.i addr).1,
        { s with bus := ((s.bus.read s.p.i addr).2.read s.p.i (addr + 1)).2 }) := rfl

theorem takeException_eq (brk : Bool) (s : State) :
    takeException brk s =
      { s with
        sp := s.sp - 1 - 1 - 1
        p := { s.p with i := true }
        pc := mk16 (((entryBus brk s).read true (entryVec s)).2.read true (entryVec s + 1)).1
          ((entryBus brk s).read true (entryVec s)).1
        bus := (((entryBus brk s).read true (entryVec s)).2.read true (entryVec s + 1)).2 } := by
  unfold takeException
  simp only [memRead16_eq]
  simp only [push_eq, push16_eq, State.setBus, State.setP, State.setPc]
  simp only [entryBus, entryVec, choiceBus]

theorem entryBus_run (brk : Bool) (s : State) : BusRun LowWrites s.bus (entryBus brk s) := by
  have h0 := BusRun.refl (W := LowWrites) (b := s.bus)
  have h2 := (h0.write s.p.i (hi s.pc) (stackAddr_low s.sp)).write s.p.i (lo s.pc)
    (stackAddr_low (s.sp - 1))
  have h3 := h2.latches false (choiceBus s).prevNmi true
  simp only [Bool.and_true] at h3
  exact h3.write s.p.i (s.p.pushByte brk) (stackAddr_low (s.sp - 1 - 1))

theorem entryVec_high (s : State) :
    0x4020 ≤ (entryVec s).toNat ∧ 0x4020 ≤ (entryVec s + 1).toNat := by
  unfold entryVec entryVector
  split <;> decide

/-- Memory, bus run and vector of an entry, from a state `s0` whose bus has come to that of `s`. -/
theorem takeException_spec (brk : Bool) {s0 s : State} (h0 : BusRun LowWrites s0.bus s.bus) :
    ∃ l h b, takeException brk s = { s with sp := s.sp - 3, p := { s.p with i := true },
                                            pc := mk16 h l, bus := b } ∧
      (∀ k, Memory.byteAt b.mem k =
        pushedByte s.bus.mem s.sp [hi s.pc, lo s.pc, s.p.pushByte brk] k) ∧
      VectorFetched s0 { s with bus := b } (entryVec s) l h := by
  have hsp : s.sp - 1 - 1 - 1 = s.sp - 3 := by bv_omega
  refine ⟨_, _, _, (takeException_eq brk s).trans (by rw [hsp]), ?_, ⟨?_, ?_, ?_⟩⟩
  · intro k
    rw [read_mem, read_mem, entryBus, push_mem]
    show Memory.byteAt (Memory.set (choiceBus s).mem _ _) k = _
    rw [choiceBus, push_mem, push_mem]
    rw [← pushedByte_set _ _ _ _ (by simp), ← pushedByte_set _ _ _ _ (by simp),
      ← pushedByte_set _ _ _ _ (by simp)]
    rfl
  · obtain ⟨e1, h1⟩ := read_trace_suffix true (entryVec s) (entryBus brk s)
    obtain ⟨e2, h2⟩ := read_trace_suffix true (entryVec s + 1)
      ((entryBus brk s).read true (entryVec s)).2
    refine ⟨_, h2, ?_⟩
    rw [h1]
    simp
  · exact read_mustRead_cart (h0.trans (entryBus_run brk s)) true (entryVec_high s).1
  · exact read_mustRead_cart ((h0.trans (entryBus_run brk s)).trans
      ((read_run _ _ _).mono dmaWrites_low)) true (entryVec_high s).2

/-- The interrupt sequence is the entry after two dummy reads at `PC`. -/
theorem interrupt_eq (s : State) :
    interrupt s = takeException false
      { s with bus := ((s.bus.read s.p.i s.pc).2.read s.p.i s.pc).2 } := rfl

theorem pushByte_true (p : Flags) : p.pushByte true = p.toByte ||| 0x30#8 := rfl

theorem pushByte_false (p : Flags) : p.pushByte false = (p.toByte ||| 0x20#8) &&& 0xEF#8 := rfl

theorem interrupt_spec (s : State) :
    ∃ l h b, interrupt s = { s with sp := s.sp - 3, p := { s.p with i := true }, pc := mk16 h l,
                                    bus := b } ∧
      (∀ k, Memory.byteAt b.mem k =
        pushedByte s.bus.mem s.sp [hi s.pc, lo s.pc, s.p.pushByte false] k) ∧
      VectorFetched s { s with bus := b }
        (entryVec { s with bus := ((s.bus.read s.p.i s.pc).2.read s.p.i s.pc).2 }) l h := by
  have h0 := (read_runs (read_run s.p.i s.pc s.bus) s.p.i s.pc).mono dmaWrites_low
  obtain ⟨l, h, b, he, hm, hv⟩ := takeException_spec false (s0 := s)
    (s := { s with bus := ((s.bus.read s.p.i s.pc).2.read s.p.i s.pc).2 }) h0
  refine ⟨l, h, b, (interrupt_eq s).trans he, fun k => ?_, hv⟩
  rw [hm k]
  simp only [read_mem]

/-! ## The return from it -/

/-- RTI's pulls. -/
theorem returnFromException_spec (s : State) :
    ∃ b, returnFromException s = { s with
        sp := s.sp + 3
        p := Flags.ofByte (s.ram (stackAddr (s.sp + 1)))
        pc := mk16 (s.ram (stackAddr (s.sp + 3))) (s.ram (stackAddr (s.sp + 2)))
        bus := b } ∧ BusRun DmaWrites s.bus b := by
  obtain ⟨b, h, hr⟩ := pull16_spec ((pull s).2.setP (.ofByte (pull s).1))
  have h0 : BusRun DmaWrites s.bus (pull s).2.bus := by
    rw [pull_eq]; exact read_run _ _ _
  have h2 : s.sp + 1 + 1 = s.sp + 2 := by bv_omega
  have h3 : s.sp + 2 + 1 = s.sp + 3 := by bv_omega
  refine ⟨b, ?_, h0.trans hr⟩
  have hr' : ∀ a, ((pull s).2.setP (.ofByte (pull s).1)).ram a = s.ram a := fun a =>
    ram_congr (by rw [pull_eq]; exact read_mem _ _ _) a
  simp only [returnFromException, h, hr']
  rw [pull_eq]
  simp only [State.setP, State.setPc, h2, h3]

end Sys2Proof.Machine
end

