-- ==== Sys2Proof/Laws/Interrupt.lean ====
section
/-!
SUPPORT. The interrupt latches along a run of cycles (60_exceptions.md R313): what one cycle's end does
to them, and what holds of them after an instruction.
-/

namespace Sys2Proof.Machine

theorem beginCycle_irqLines (b : Bus) : (beginCycle b).irqLines = nextIrqLines b := by
  unfold beginCycle catchUp nextIrqLines
  rcases h : b.inputs with _ | ⟨inp, rest⟩ <;> dsimp only
  cases inp.dmcReq <;> rfl

/-- The end of a cycle, from what the cycle left of the latches. -/
theorem sampled_endCycle (i : Bool) {b c : Bus} (h1 : c.nmi = b.nmi)
    (h2 : c.nmiLinePrev = b.nmiLinePrev) (h3 : c.irqLines = nextIrqLines b)
    (h4 : c.runIrq = b.runIrq) : Sampled i b (endCycle i c) := by
  refine ⟨h1, ?_, rfl, rfl, h3, h4, rfl⟩
  show (c.nmi || (c.nmiLine && !c.nmiLinePrev)) = _
  rw [h1, h2]
  rfl

theorem sampled_readCycle (i : Bool) (addr : Word) (b : Bus) :
    Sampled i b (b.readCycle i addr).2 := by
  unfold Bus.readCycle
  dsimp only
  rw [busRead_frame]
  exact sampled_endCycle i (beginCycle_nmi b) (beginCycle_nmiLinePrev b) (beginCycle_irqLines b)
    (beginCycle_runIrq b)

theorem sampled_writeCycle (i : Bool) (addr : Word) (v : Byte) (b : Bus) :
    Sampled i b (b.writeCycle i addr v) := by
  unfold Bus.writeCycle
  dsimp only
  rw [busWrite_frame]
  exact sampled_endCycle i (beginCycle_nmi b) (beginCycle_nmiLinePrev b) (beginCycle_irqLines b)
    (beginCycle_runIrq b)

theorem sampled_idleCycle (i : Bool) (b : Bus) : Sampled i b (b.idleCycle i) := by
  unfold Bus.idleCycle
  exact sampled_endCycle i (beginCycle_nmi b) (beginCycle_nmiLinePrev b) (beginCycle_irqLines b)
    (beginCycle_runIrq b)

/-! ## Runs with one value of the I flag -/

/-- A run of cycles all sampled with the I flag `i`. DMA and every CPU read are such runs. -/
inductive CycleRun (i : Bool) (b : Bus) : Bus → Prop
  | refl : CycleRun i b b
  | read {c : Bus} (h : CycleRun i b c) (addr : Word) : CycleRun i b (c.readCycle i addr).2
  | dmaWrite {c : Bus} (h : CycleRun i b c) (v : Byte) :
      CycleRun i b (c.writeCycle i 0x2004#16 v)
  | idle {c : Bus} (h : CycleRun i b c) : CycleRun i b (c.idleCycle i)
  | dma {c : Bus} (h : CycleRun i b c) (oam dmc halt dummy : Bool) (buffer : Option Byte) :
      CycleRun i b { c with oamDma := oam, dmcDma := dmc, halt := halt, dummyRead := dummy,
                            dmcBuffer := buffer }

theorem CycleRun.trans {i : Bool} {b c d : Bus} (h : CycleRun i b c) (h' : CycleRun i c d) :
    CycleRun i b d := by
  induction h' with
  | refl => exact h
  | read _ addr ih => exact ih.read addr
  | dmaWrite _ v ih => exact ih.dmaWrite v
  | idle _ ih => exact ih.idle
  | dma _ oam dmc halt dummy buffer ih => exact ih.dma oam dmc halt dummy buffer

theorem dmaPayDebt_cycleRun {i : Bool} {b c : Bus} (h : CycleRun i b c) :
    CycleRun i b (dmaPayDebt c) := by
  unfold dmaPayDebt
  split
  · exact h.dma c.oamDma c.dmcDma false c.dummyRead c.dmcBuffer
  · split
    · exact h.dma c.oamDma c.dmcDma c.halt false c.dmcBuffer
    · exact h

theorem dmaWait_cycleRun {i : Bool} {b c : Bus} (h : CycleRun i b c) (skip : Bool) (addr : Word) :
    CycleRun i b (dmaWait i skip addr c) := by
  unfold dmaWait
  split
  · exact h.idle
  · exact h.read addr

theorem dmaLoop_cycleRun (i skip : Bool) (addr : Word) (fuel : Nat) (idx : Byte) (n : Nat)
    (latch : Byte) {b c : Bus} (h : CycleRun i b c) :
    CycleRun i b (dmaLoop i skip addr fuel idx n latch c) := by
  induction fuel generalizing idx n latch c with
  | zero => exact h
  | succ fuel ih =>
    have hd := dmaPayDebt_cycleRun h
    simp only [dmaLoop]
    split
    · split
      · split
        · exact ih _ _ _ ((hd.read _).dma _ false _ _ (some _))
        · split
          · exact ih _ _ _ (hd.read _)
          · exact ih _ _ _ (dmaWait_cycleRun hd skip addr)
      · split
        · apply ih
          have hw := hd.dmaWrite latch
          split
          · exact hw.dma false _ _ _ _
          · exact hw
        · exact ih _ _ _ (dmaWait_cycleRun hd skip addr)
    · exact h

theorem runDma_cycleRun (i : Bool) (addr : Word) (b : Bus) : CycleRun i b (runDma i addr b) := by
  unfold runDma
  have h := (CycleRun.refl (i := i) (b := b)).read addr
  exact dmaLoop_cycleRun _ _ _ _ _ _ _ (h.dma _ _ false _ _)

/-- A CPU read: a run, then the read cycle itself. -/
theorem read_split (i : Bool) (addr : Word) (b : Bus) :
    ∃ c, CycleRun i b c ∧ b.read i addr = c.readCycle i addr := by
  unfold Bus.read
  split
  · exact ⟨_, runDma_cycleRun i addr b, rfl⟩
  · exact ⟨_, .refl, rfl⟩

theorem read_cycleRun (i : Bool) (addr : Word) (b : Bus) : CycleRun i b (b.read i addr).2 := by
  obtain ⟨c, h, he⟩ := read_split i addr b
  rw [he]
  exact h.read addr

/-- The packaged induction over a run: what a cycle's sampling keeps. -/
theorem CycleRun.preserves {i : Bool} {b c : Bus} {P : Bus → Prop} (h : CycleRun i b c) (hb : P b)
    (hread : ∀ c addr, P c → P (Bus.readCycle i addr c).2)
    (hwrite : ∀ c v, P c → P (Bus.writeCycle i 0x2004#16 v c))
    (hidle : ∀ c, P c → P (Bus.idleCycle i c))
    (hdma : ∀ (c : Bus) oam dmc halt dummy buffer, P c →
      P { c with oamDma := oam, dmcDma := dmc, halt := halt, dummyRead := dummy,
                 dmcBuffer := buffer }) : P c := by
  induction h with
  | refl => exact hb
  | read _ addr ih => exact hread _ addr ih
  | dmaWrite _ v ih => exact hwrite _ v ih
  | idle _ ih => exact hidle _ ih
  | dma _ oam dmc halt dummy buffer ih => exact hdma _ oam dmc halt dummy buffer ih

/-- While I is set no IRQ becomes runnable. -/
theorem CycleRun.runIrq_masked {b c : Bus} (h : CycleRun true b c) (hb : b.runIrq = false) :
    c.runIrq = false := by
  refine h.preserves (P := fun d => d.runIrq = false) hb ?_ ?_ ?_ ?_
  · intro d a _; rw [(sampled_readCycle true a d).2.2.2.2.2.2]; simp
  · intro d v _; rw [(sampled_writeCycle true _ v d).2.2.2.2.2.2]; simp
  · intro d _; rw [(sampled_idleCycle true d).2.2.2.2.2.2]; simp
  · intro d _ _ _ _ _ h; exact h

/-! ## Quiet lines -/

theorem beginCycle_ppu {b : Bus} (h : ∀ inp ∈ b.inputs, inp.ppu = none) :
    (beginCycle b).ppu = b.ppu := by
  unfold beginCycle catchUp requestDmc
  dsimp only
  split
  · rfl
  · rename_i inp rest heq
    have h0 := h inp (by rw [heq]; simp)
    split <;> simp [h0]

/-- A read can only lower the VBlank flag, and leaves the NMI enable. -/
theorem busRead_ppu (addr : Word) (b : Bus) :
    (busRead addr b).2.ppu.nmiEnabled = b.ppu.nmiEnabled ∧
    ((busRead addr b).2.ppu.vblank = true → b.ppu.vblank = true) := by
  have he : (envByte b).2.ppu = b.ppu := by unfold envByte; split <;> rfl
  unfold busRead
  split
  · exact ⟨rfl, id⟩
  · unfold ppuRead
    dsimp only
    split
    · simp [he]
    · split <;> simp [he]
    · simp [he]
  · simp [he]
  · simp [he]
  · split
    · exact ⟨rfl, id⟩
    · split
      · simp [he]
      · exact ⟨rfl, id⟩
      · exact ⟨rfl, id⟩

/-- A write leaves the VBlank flag. -/
theorem busWrite_vblank (addr : Word) (v : Byte) (b : Bus) :
    (busWrite addr v b).ppu.vblank = b.ppu.vblank := by
  unfold busWrite ppuWrite
  split
  · rfl
  · split
    · split <;> rfl
    · rfl
  · split <;> rfl
  · rfl
  · split <;> rfl

/-- Only a write to register 0 of the PPU touches the port. -/
theorem busWrite_ppu {addr : Word} (h : busTarget addr ≠ .ppu 0) (v : Byte) (b : Bus) :
    (busWrite addr v b).ppu = b.ppu := by
  unfold busWrite ppuWrite
  split
  · rfl
  · split
    · simp_all
    · rfl
  · split <;> rfl
  · rfl
  · split <;> rfl

theorem mem_tail {P : BusInput → Prop} {l : List BusInput} (h : ∀ inp ∈ l, P inp) :
    ∀ inp ∈ l.tail, P inp := fun inp hi => h inp (List.mem_of_mem_tail hi)

theorem readCycle_ppu (i : Bool) (addr : Word) {b : Bus} (h : ∀ inp ∈ b.inputs, inp.ppu = none) :
    (b.readCycle i addr).2.ppu.nmiEnabled = b.ppu.nmiEnabled ∧
    ((b.readCycle i addr).2.ppu.vblank = true → b.ppu.vblank = true) := by
  have := busRead_ppu addr (beginCycle b)
  rw [beginCycle_ppu h] at this
  exact this

/-- No NMI is pending and none can come. -/
def Bus.nmiQuiet (b : Bus) : Prop :=
  b.nmi = false ∧ b.ppu.vblank = false ∧ ∀ inp ∈ b.inputs, inp.ppu = none

theorem nmiLine_quiet {b : Bus} (h : b.ppu.vblank = false) : b.nmiLine = false := by
  simp [Bus.nmiLine, h]

theorem nmiQuiet_read (i : Bool) (addr : Word) {b : Bus} (h : b.nmiQuiet) :
    (b.readCycle i addr).2.nmiQuiet := by
  have hv : (b.readCycle i addr).2.ppu.vblank = false := by
    have := (readCycle_ppu i addr h.2.2).2
    rw [h.2.1] at this
    simpa using this
  refine ⟨?_, hv, ?_⟩
  · rw [(sampled_readCycle i addr b).2.1, nmiLine_quiet hv, h.1]; rfl
  · rw [readCycle_inputs]; exact mem_tail h.2.2

theorem nmiQuiet_write (i : Bool) (addr : Word) (v : Byte) {b : Bus} (h : b.nmiQuiet) :
    (b.writeCycle i addr v).nmiQuiet := by
  have hv : (b.writeCycle i addr v).ppu.vblank = false := by
    show (busWrite addr v (beginCycle b)).ppu.vblank = false
    rw [busWrite_vblank, beginCycle_ppu h.2.2, h.2.1]
  refine ⟨?_, hv, ?_⟩
  · rw [(sampled_writeCycle i addr v b).2.1, nmiLine_quiet hv, h.1]; rfl
  · rw [writeCycle_inputs]; exact mem_tail h.2.2

theorem nmiQuiet_idle (i : Bool) {b : Bus} (h : b.nmiQuiet) : (b.idleCycle i).nmiQuiet := by
  have hv : (b.idleCycle i).ppu.vblank = false := by
    show (beginCycle b).ppu.vblank = false
    rw [beginCycle_ppu h.2.2, h.2.1]
  refine ⟨?_, hv, ?_⟩
  · rw [(sampled_idleCycle i b).2.1, nmiLine_quiet hv, h.1]; rfl
  · rw [idleCycle_inputs]; exact mem_tail h.2.2

theorem CycleRun.nmiQuiet {i : Bool} {b c : Bus} (h : CycleRun i b c) (hb : b.nmiQuiet) :
    c.nmiQuiet :=
  h.preserves hb (fun _ a h => nmiQuiet_read i a h) (fun _ v h => nmiQuiet_write i _ v h)
    (fun _ h => nmiQuiet_idle i h) (fun _ _ _ _ _ _ h => h)

/-- An IRQ is held: asserted now and in all cycles to come. -/
def Bus.irqHeld (b : Bus) : Prop :=
  anyIrq b.irqLines = true ∧ ∀ inp ∈ b.inputs, anyIrq inp.irqLines = true

theorem nextIrqLines_held {b : Bus} (h : b.irqHeld) : anyIrq (nextIrqLines b) = true := by
  unfold nextIrqLines
  split
  · exact h.1
  · rename_i inp rest heq
    exact h.2 inp (by rw [heq]; simp)

theorem irqHeld_read (i : Bool) (addr : Word) {b : Bus} (h : b.irqHeld) :
    (b.readCycle i addr).2.irqHeld := by
  refine ⟨?_, ?_⟩
  · rw [(sampled_readCycle i addr b).2.2.2.2.1]; exact nextIrqLines_held h
  · rw [readCycle_inputs]; exact mem_tail h.2

theorem irqHeld_write (i : Bool) (addr : Word) (v : Byte) {b : Bus} (h : b.irqHeld) :
    (b.writeCycle i addr v).irqHeld := by
  refine ⟨?_, ?_⟩
  · rw [(sampled_writeCycle i addr v b).2.2.2.2.1]; exact nextIrqLines_held h
  · rw [writeCycle_inputs]; exact mem_tail h.2

theorem irqHeld_idle (i : Bool) {b : Bus} (h : b.irqHeld) : (b.idleCycle i).irqHeld := by
  refine ⟨?_, ?_⟩
  · rw [(sampled_idleCycle i b).2.2.2.2.1]; exact nextIrqLines_held h
  · rw [idleCycle_inputs]; exact mem_tail h.2

theorem CycleRun.irqHeld {i : Bool} {b c : Bus} (h : CycleRun i b c) (hb : b.irqHeld) :
    c.irqHeld :=
  h.preserves hb (fun _ a h => irqHeld_read i a h) (fun _ v h => irqHeld_write i _ v h)
    (fun _ h => irqHeld_idle i h) (fun _ _ _ _ _ _ h => h)

/-- A cycle that ends with I clear while an IRQ is held makes it runnable. -/
theorem readCycle_runIrq_held (addr : Word) {b : Bus} (h : b.irqHeld) :
    (b.readCycle false addr).2.runIrq = true := by
  have hs := (sampled_readCycle false addr b).2.2
  rw [hs.2.2.2.2, hs.2.1, hs.2.2.1, nextIrqLines_held h]
  rfl

/-- After a CPU read with I clear and an IRQ held, an IRQ is runnable. -/
theorem read_runIrq_held (addr : Word) {b : Bus} (h : b.irqHeld) :
    (b.read false addr).2.runIrq = true := by
  obtain ⟨c, hc, he⟩ := read_split false addr b
  rw [he]
  exact readCycle_runIrq_held addr (hc.irqHeld h)

/-- After a CPU read with I set no IRQ is runnable. -/
theorem read_runIrq_masked (addr : Word) (b : Bus) : (b.read true addr).2.runIrq = false := by
  obtain ⟨c, hc, he⟩ := read_split true addr b
  rw [he, (sampled_readCycle true addr c).2.2.2.2.2.2]
  simp

/-- The shadow after a CPU read with I set, if no IRQ was runnable before it. -/
theorem read_prevRunIrq_masked (addr : Word) {b : Bus} (h : b.runIrq = false) :
    (b.read true addr).2.prevRunIrq = false := by
  obtain ⟨c, hc, he⟩ := read_split true addr b
  rw [he, (sampled_readCycle true addr c).2.2.2.2.2.1]
  exact hc.runIrq_masked h

/-- The shadow after a CPU read with I clear and an IRQ held, if one was runnable before it. -/
theorem CycleRun.runIrq_held {b c : Bus} (h : CycleRun false b c) (hb : b.irqHeld)
    (hr : b.runIrq = true) : c.runIrq = true := by
  refine (h.preserves (P := fun d => d.irqHeld ∧ d.runIrq = true) ⟨hb, hr⟩ ?_ ?_ ?_ ?_).2
  · intro d a h; exact ⟨irqHeld_read false a h.1, readCycle_runIrq_held a h.1⟩
  · intro d v h
    refine ⟨irqHeld_write false _ v h.1, ?_⟩
    have hs := (sampled_writeCycle false 0x2004#16 v d).2.2
    rw [hs.2.2.2.2, hs.2.1, hs.2.2.1, nextIrqLines_held h.1]; rfl
  · intro d h
    refine ⟨irqHeld_idle false h.1, ?_⟩
    have hs := (sampled_idleCycle false d).2.2
    rw [hs.2.2.2.2, hs.2.1, hs.2.2.1, nextIrqLines_held h.1]; rfl
  · intro d _ _ _ _ _ h; exact h

theorem read_prevRunIrq_held (addr : Word) {b : Bus} (h : b.irqHeld) (hr : b.runIrq = true) :
    (b.read false addr).2.prevRunIrq = true := by
  obtain ⟨c, hc, he⟩ := read_split false addr b
  rw [he, (sampled_readCycle false addr c).2.2.2.2.2.1]
  exact hc.runIrq_held h hr

/-- The NMI shadow after a CPU read, where all is quiet. -/
theorem read_prevNmi_quiet (i : Bool) (addr : Word) {b : Bus} (h : b.nmiQuiet) :
    (b.read i addr).2.prevNmi = false := by
  obtain ⟨c, hc, he⟩ := read_split i addr b
  rw [he, (sampled_readCycle i addr c).1]
  exact (hc.nmiQuiet h).1

/-! ## No new rise of the NMI line -/

/-- The line makes no new rise: where it is high it was high at the last cycle's end, and the PPU
changes nothing. -/
def LevelQuiet (b : Bus) : Prop :=
  (b.nmiLine = true → b.nmiLinePrev = true) ∧ ∀ inp ∈ b.inputs, inp.ppu = none

/-- A cycle that does not raise the line leaves the NMI latch. -/
theorem levelQuiet_sampled {i : Bool} {b b' : Bus} (h : LevelQuiet b) (hs : Sampled i b b')
    (he : b'.ppu.nmiEnabled = b.ppu.nmiEnabled) (hv : b'.ppu.vblank = true → b.ppu.vblank = true)
    (hi : b'.inputs = b.inputs.tail) : LevelQuiet b' ∧ b'.nmi = b.nmi := by
  have hl : b'.nmiLine = true → b.nmiLinePrev = true := by
    intro h'
    apply h.1
    simp only [Bus.nmiLine, Bool.and_eq_true] at h' ⊢
    exact ⟨hv h'.1, he ▸ h'.2⟩
  refine ⟨⟨fun h' => by rw [hs.2.2.1]; exact h', by rw [hi]; exact mem_tail h.2⟩, ?_⟩
  rw [hs.2.1]
  cases hb : b'.nmiLine
  · simp
  · simp [hl hb]

theorem levelQuiet_read (i : Bool) (addr : Word) {b : Bus} (h : LevelQuiet b) :
    LevelQuiet (b.readCycle i addr).2 ∧ (b.readCycle i addr).2.nmi = b.nmi :=
  levelQuiet_sampled h (sampled_readCycle i addr b) (readCycle_ppu i addr h.2).1
    (readCycle_ppu i addr h.2).2 (readCycle_inputs _ _ _)

theorem levelQuiet_write (i : Bool) {addr : Word} (v : Byte) {b : Bus} (h : LevelQuiet b)
    (ha : busTarget addr ≠ .ppu 0) :
    LevelQuiet (b.writeCycle i addr v) ∧ (b.writeCycle i addr v).nmi = b.nmi := by
  have hp : (b.writeCycle i addr v).ppu = b.ppu := by
    show (busWrite addr v (beginCycle b)).ppu = _
    rw [busWrite_ppu ha, beginCycle_ppu h.2]
  exact levelQuiet_sampled h (sampled_writeCycle i addr v b) (by rw [hp]) (by rw [hp]; exact id)
    (writeCycle_inputs _ _ _ _)

theorem levelQuiet_idle (i : Bool) {b : Bus} (h : LevelQuiet b) :
    LevelQuiet (b.idleCycle i) ∧ (b.idleCycle i).nmi = b.nmi := by
  have hp : (b.idleCycle i).ppu = b.ppu := beginCycle_ppu h.2
  exact levelQuiet_sampled h (sampled_idleCycle i b) (by rw [hp]) (by rw [hp]; exact id)
    (idleCycle_inputs _ _)

theorem CycleRun.levelQuiet {i : Bool} {b c : Bus} (h : CycleRun i b c) (hb : LevelQuiet b) :
    LevelQuiet c ∧ c.nmi = b.nmi := by
  refine h.preserves (P := fun d => LevelQuiet d ∧ d.nmi = b.nmi) ⟨hb, rfl⟩ ?_ ?_ ?_ ?_
  · intro d a ⟨h1, h2⟩; have := levelQuiet_read i a h1; exact ⟨this.1, this.2.trans h2⟩
  · intro d v ⟨h1, h2⟩
    have := levelQuiet_write i (addr := 0x2004#16) v h1 (by decide)
    exact ⟨this.1, this.2.trans h2⟩
  · intro d ⟨h1, h2⟩; have := levelQuiet_idle i h1; exact ⟨this.1, this.2.trans h2⟩
  · intro d _ _ _ _ _ h; exact h

/-- Cycles only set the NMI latch. -/
theorem CycleRun.nmi_grows {i : Bool} {b c : Bus} (h : CycleRun i b c) (hb : b.nmi = true) :
    c.nmi = true := by
  refine h.preserves (P := fun d => d.nmi = true) hb ?_ ?_ ?_ ?_
  · intro d a h; rw [(sampled_readCycle i a d).2.1, h]; rfl
  · intro d v h; rw [(sampled_writeCycle i _ v d).2.1, h]; rfl
  · intro d h; rw [(sampled_idleCycle i d).2.1, h]; rfl
  · intro d _ _ _ _ _ h; exact h

end Sys2Proof.Machine
end

