-- ==== Sys2Proof/Laws/Step.lean ====
section
/-! SUPPORT. What a step does around `exec`: the fetch of the instruction's bytes, the interrupt that may
follow, and the taken branch's two extra reads. -/

namespace Sys2Proof.Machine

/-! ## The fetch -/

theorem fetchByte_eq (s : State) :
    fetchByte s = ((s.bus.read s.p.i s.pc).1,
      { s with pc := s.pc + 1, bus := (s.bus.read s.p.i s.pc).2 }) := rfl

/-- The operand fetch yields the bytes memory holds, and moves `PC` past them. -/
theorem fetchBytes_spec (s0 : State) (bs : List Byte) :
    ∀ s : State, BusRun DmaWrites s0.bus s.bus → BytesAt s0 s.pc bs →
    ∃ b, fetchBytes bs.length s =
        (bs, { s with pc := s.pc + BitVec.ofNat 16 bs.length, bus := b }) ∧
      BusRun DmaWrites s0.bus b := by
  induction bs with
  | nil => intro s h _; exact ⟨s.bus, by simp [fetchBytes], h⟩
  | cons v bs ih =>
    intro s h ⟨h1, h2, h3⟩
    obtain ⟨b, hb, hr⟩ :=
      ih { s with pc := s.pc + 1, bus := (s.bus.read s.p.i s.pc).2 } (read_runs h _ _) h3
    refine ⟨b, ?_, hr⟩
    have hv : (s.bus.read s.p.i s.pc).1 = v := (read_mustRead h s.p.i s.pc h1).trans h2
    have hpc : s.pc + 1 + BitVec.ofNat 16 bs.length = s.pc + BitVec.ofNat 16 (bs.length + 1) := by
      rw [BitVec.add_assoc]; congr 1
      apply BitVec.eq_of_toNat_eq; simp [Nat.add_comm]
    simp only [List.length_cons, fetchBytes, fetchByte_eq, hb, hv, hpc]

/-- A step decodes the bytes memory holds at `PC`. -/
theorem fetchInstr_spec (s : State) (i : Instr) (h : BytesAt s s.pc (encode i)) :
    ∃ b, fetchInstr s = (i, { s with
        pc := s.pc + BitVec.ofNat 16 i.entry.bytes
        latches := { s.latches with instr := i.entry }
        bus := b }) ∧
      BusRun DmaWrites s.bus b := by
  obtain ⟨tl, he, hl, hi⟩ := encode_eq i
  rw [he] at h
  obtain ⟨h1, h2, h3⟩ := h
  have hop : (s.bus.read s.p.i s.pc).1 = i.opcode := (read_mustRead .refl s.p.i s.pc h1).trans h2
  obtain ⟨b, hb, hr⟩ := fetchBytes_spec s tl
    { s with pc := s.pc + 1, bus := (s.bus.read s.p.i s.pc).2,
             latches := { s.latches with instr := table i.opcode } } (read_run _ _ _) h3
  rw [hl] at hb
  refine ⟨b, ?_, hr⟩
  unfold fetchInstr
  simp only [fetchByte_eq, hop, State.setLatches]
  rw [hb]
  have hpc : s.pc + 1 + BitVec.ofNat 16 tl.length = s.pc + BitVec.ofNat 16 i.entry.bytes := by
    rw [BitVec.add_assoc, hl]; congr 1
    apply BitVec.eq_of_toNat_eq; simp [Entry.bytes, Instr.entry]
  have hpc' := hl ▸ hpc
  simp only [hi, hpc']
  rfl

/-- An instruction of one byte: its fetch is one read. -/
theorem fetchInstr_single (s : State) (i : Instr) (h : BytesAt s s.pc (encode i))
    (h1 : (table i.opcode).mode.operandBytes = 0) :
    fetchInstr s = (i, { s with
        pc := s.pc + 1
        latches := { s.latches with instr := i.entry }
        bus := (s.bus.read s.p.i s.pc).2 }) := by
  obtain ⟨tl, he, hl, hi⟩ := encode_eq i
  rw [h1] at hl
  obtain rfl := List.length_eq_zero_iff.1 hl
  rw [he] at h
  have hop : (s.bus.read s.p.i s.pc).1 = i.opcode := (read_mustRead .refl s.p.i s.pc h.1).trans h.2.1
  unfold fetchInstr
  simp only [fetchByte_eq, hop, State.setLatches, h1, fetchBytes]
  exact Prod.ext hi rfl

/-! ## The step -/

/-- A step with no reset asked for and no jam: fetch, `exec`, instruction-end check. -/
theorem step_eq {s : State} (h1 : s.resetReq = none) (h2 : s.jammed = false) :
    step s = .next (instructionEnd
      (opRun (fetchInstr s).1.entry
        (modeRun (fetchInstr s).1.entry (fetchInstr s).1.operand (fetchInstr s).2))) := by
  unfold step
  rw [h1]
  simp only [h2, exec_table]
  rfl

/-- The same, from what `exec` answers. -/
theorem step_of_exec {s t : State} (h1 : s.resetReq = none) (h2 : s.jammed = false)
    (h3 : exec (fetchInstr s).1 (fetchInstr s).2 = .next t) : step s = .next (instructionEnd t) := by
  unfold step
  rw [h1]
  simp only [h2, h3]
  rfl

/-- A step with a reset asked for applies it. -/
theorem step_reset {s : State} {k : ResetKind} (h : s.resetReq = some k) :
    step s = .next (applyReset k s) := by
  unfold step
  rw [h]

/-- No sequence follows where neither shadow is set. -/
theorem instructionEnd_none {s : State} (h1 : s.bus.prevRunIrq = false)
    (h2 : s.bus.prevNmi = false) : instructionEnd s = s := by
  unfold instructionEnd
  simp [h1, h2]

/-- The sequence follows where the IRQ shadow is set. -/
theorem instructionEnd_irq {s : State} (h : s.bus.prevRunIrq = true) :
    instructionEnd s = interrupt s := by
  unfold instructionEnd
  simp [h]

/-! ## The taken branch -/

/-- `Branch(cond)` (44_branch_jump.md R220). -/
theorem branch_spec (cond : Flags → Bool) (s : State) :
    ∃ b, branch cond s = { s with
        pc := if cond s.p = true then s.pc + sext16 s.latches.relAddr else s.pc
        bus := b } ∧
      BusRun DmaWrites s.bus b := by
  unfold branch
  by_cases hc : cond s.p = true
  · simp only [hc, if_true]
    have hq : BusRun DmaWrites s.bus (branchQuirk s).bus :=
      (BusRun.refl (W := DmaWrites) (b := s.bus)).latches s.bus.nmi s.bus.prevNmi s.bus.prevRunIrq
    split
    · exact ⟨_, rfl, read_runs (read_runs hq s.p.i s.pc) s.p.i s.pc⟩
    · exact ⟨_, rfl, read_runs hq s.p.i s.pc⟩
  · simp only [hc]
    exact ⟨s.bus, rfl, .refl⟩

/-! ## All that a step can be -/

/-- A step that answers a next state is a reset, or an instruction and its instruction-end check. -/
theorem step_cases {s t : State} (h : step s = .next t) :
    (∃ k, s.resetReq = some k ∧ t = applyReset k s) ∨
    (s.resetReq = none ∧ s.jammed = false ∧ ∃ u,
      exec (fetchInstr s).1 (fetchInstr s).2 = .next u ∧ t = instructionEnd u) := by
  cases hr : s.resetReq with
  | some k =>
    rw [step_reset hr] at h
    exact .inl ⟨k, rfl, by simpa using h.symm⟩
  | none =>
    cases hj : s.jammed with
    | true => unfold step at h; rw [hr] at h; simp [hj] at h
    | false =>
      rw [step_eq hr hj] at h
      exact .inr ⟨rfl, rfl, _, exec_table _ _, by simpa using h.symm⟩

end Sys2Proof.Machine
end

