-- ==== Sys2Proof/Laws/Whole.lean ====
section
/-! SUPPORT. What holds of every instruction and every step: the bus goes through a run of cycles, and
the parameters, the reset request and, but for a jam opcode, `corrupted` stay. -/

namespace Sys2Proof.Machine

/-- `t` comes from `s` by bus cycles and by changes of registers, flags and latches. -/
def Ran (s t : State) : Prop :=
  t.params = s.params ∧ t.resetReq = s.resetReq ∧ t.corrupted = s.corrupted ∧
  BusRun (fun _ => True) s.bus t.bus

theorem Ran.refl (s : State) : Ran s s := ⟨rfl, rfl, rfl, .refl⟩

theorem Ran.trans {s t u : State} (h : Ran s t) (h' : Ran t u) : Ran s u :=
  ⟨h'.1.trans h.1, h'.2.1.trans h.2.1, h'.2.2.1.trans h.2.2.1, h.2.2.2.trans h'.2.2.2⟩

theorem anyWrites {b c : Bus} {W : Word → Prop} (h : BusRun W b c) : BusRun (fun _ => True) b c :=
  h.mono fun _ _ => trivial

theorem ran_memRead (addr : Word) (s : State) : Ran s (memRead addr s).2 :=
  ⟨rfl, rfl, rfl, anyWrites (read_run _ _ _)⟩

theorem ran_dummyRead (addr : Word) (s : State) : Ran s (dummyRead addr s) := ran_memRead addr s

theorem ran_memWrite (addr : Word) (v : Byte) (s : State) : Ran s (memWrite addr v s) :=
  ⟨rfl, rfl, rfl, BusRun.refl.write _ v trivial⟩

theorem ran_push (v : Byte) (s : State) : Ran s (push v s) :=
  ⟨rfl, rfl, rfl, BusRun.refl.write _ v trivial⟩

theorem ran_push16 (w : Word) (s : State) : Ran s (push16 w s) :=
  (ran_push (hi w) s).trans (ran_push (lo w) _)

theorem ran_pull (s : State) : Ran s (pull s).2 := ⟨rfl, rfl, rfl, anyWrites (read_run _ _ _)⟩

theorem ran_pull16 (s : State) : Ran s (pull16 s).2 := (ran_pull s).trans (ran_pull _)

theorem ran_modeRun (i : Instr) (s : State) : Ran s (modeRun i.entry i.operand s) := by
  obtain ⟨l, b, h, hb, -, -⟩ := modeRun_spec i s
  rw [h]
  exact ⟨rfl, rfl, rfl, anyWrites hb⟩

theorem ran_readEffect (e : Entry) (v : Byte) (s : State) : Ran s (readEffect e v s) := by
  unfold readEffect
  generalize e.operation = o
  by_cases hm : e.mode = .IMM <;> simp only [hm, if_true, if_false] <;> cases o <;>
    exact ⟨rfl, rfl, rfl, .refl⟩

theorem ran_modifyFn (o : Operation) (v : Byte) (s : State) : Ran s (modifyFn o v s).2 := by
  unfold modifyFn
  cases o <;> exact ⟨rfl, rfl, rfl, .refl⟩

theorem ran_storeRun (o : Operation) (s : State) : Ran s (storeRun o s) := by
  unfold storeRun
  split
  case _ => exact ran_memWrite _ _ s
  case _ => exact ran_memWrite _ _ s
  case _ => exact ran_memWrite _ _ s
  case _ => exact ran_memWrite _ _ s
  case _ => exact ran_memWrite _ _ s
  case _ =>
    have h : Ran s (s.setSp (s.a &&& s.x)) := ⟨rfl, rfl, rfl, .refl⟩
    exact h.trans (ran_memWrite _ _ _)
  case _ => exact ran_memWrite _ _ s
  case _ => exact ran_memWrite _ _ s

theorem ran_takeException (brk : Bool) (s : State) : Ran s (takeException brk s) := by
  rw [takeException_eq]
  refine ⟨rfl, rfl, rfl, ?_⟩
  exact anyWrites ((entryBus_run brk s).trans
    ((read_runs (read_run _ _ _) _ _).mono dmaWrites_low))

theorem ran_interrupt (s : State) : Ran s (interrupt s) :=
  ((ran_dummyRead s.pc s).trans (ran_dummyRead s.pc _)).trans (ran_takeException false _)

theorem ran_instructionEnd (s : State) : Ran s (instructionEnd s) := by
  unfold instructionEnd
  split
  · exact ran_interrupt s
  · exact .refl s

/-- The implied operations, the jam opcodes apart. -/
theorem ran_impliedRun {o : Operation} (h : o ≠ .XXX) (s : State) : Ran s (impliedRun o s) := by
  have hd : Ran s (dummyStackRead s) := ran_dummyRead _ s
  unfold impliedRun
  split
  case h_11 =>
    exact (hd.trans (ran_pull16 _)).trans (Ran.trans ⟨rfl, rfl, rfl, .refl⟩ (ran_dummyRead _ _))
  case h_12 =>
    obtain ⟨b, h1, h2⟩ := returnFromException_spec (dummyStackRead s)
    show Ran s (returnFromException (dummyStackRead s))
    rw [h1]
    exact hd.trans ⟨rfl, rfl, rfl, anyWrites h2⟩
  case h_13 => exact ran_push _ s
  case h_14 => exact ran_push _ s
  case h_15 => exact (hd.trans (ran_pull _)).trans ⟨rfl, rfl, rfl, .refl⟩
  case h_16 => exact (hd.trans (ran_pull _)).trans ⟨rfl, rfl, rfl, .refl⟩
  case h_24 => exact absurd rfl h
  all_goals exact ⟨rfl, rfl, rfl, .refl⟩

theorem ran_setPc (w : Word) (s : State) : Ran s (s.setPc w) := ⟨rfl, rfl, rfl, .refl⟩

theorem ran_jsrOp (s : State) : Ran s (jsrOp s) :=
  ((ran_dummyRead (stackAddr s.sp) s).trans (ran_push16 (s.pc - 1) _)).trans (ran_setPc _ _)

theorem ran_opRun {e : Entry} (h : e.operation ≠ .XXX) (s : State) : Ran s (opRun e s) := by
  cases hk : e.kind <;> simp only [opRun, hk]
  case read =>
    split
    · exact ran_readEffect e _ s
    · exact (ran_memRead _ s).trans (Ran.trans ⟨rfl, rfl, rfl, .refl⟩ (ran_readEffect e _ _))
  case store => exact ran_storeRun _ s
  case rmw =>
    exact ((ran_memRead s.latches.absAddr s).trans (ran_memWrite _ _ _)).trans
      (Ran.trans (ran_modifyFn _ _ _) (ran_memWrite _ _ _))
  case acc => exact (ran_modifyFn _ _ s).trans ⟨rfl, rfl, rfl, .refl⟩
  case implied => exact ran_impliedRun h s
  case branch =>
    obtain ⟨b, h1, h2⟩ := branch_spec (branchTaken e.operation) s
    rw [h1]
    exact ⟨rfl, rfl, rfl, anyWrites h2⟩
  case jump =>
    split
    · exact ran_jsrOp s
    · exact ⟨rfl, rfl, rfl, .refl⟩
  case brk =>
    have h1 := ran_takeException true s
    refine ⟨h1.1, h1.2.1, h1.2.2.1, ?_⟩
    have h2 := h1.2.2.2.latches (takeException true s).bus.nmi false true
    simp only [Bool.and_true] at h2
    exact h2

theorem ran_fetchByte (s : State) : Ran s (fetchByte s).2 :=
  ⟨rfl, rfl, rfl, anyWrites (read_run _ _ _)⟩

theorem ran_fetchBytes (n : Nat) (s : State) : Ran s (fetchBytes n s).2 := by
  induction n generalizing s with
  | zero => exact .refl s
  | succ n ih => exact (ran_fetchByte s).trans (ih _)

theorem ran_fetchInstr (s : State) : Ran s (fetchInstr s).2 :=
  (ran_fetchByte s).trans (Ran.trans ⟨rfl, rfl, rfl, .refl⟩ (ran_fetchBytes _ _))

/-- Every instruction: a run of cycles, and `corrupted` set exactly by the jam opcodes. -/
theorem exec_ran (i : Instr) (s : State) :
    ∃ t, exec i s = .next t ∧ t.params = s.params ∧ t.resetReq = s.resetReq ∧
      t.corrupted = (s.corrupted || decide (i.entry.operation = .XXX)) ∧
      BusRun (fun _ => True) s.bus t.bus := by
  refine ⟨_, exec_table i s, ?_⟩
  by_cases hx : i.entry.operation = .XXX
  · have hm := ran_modeRun i s
    have hk : i.entry.kind = .implied := kind_of i hx
    simp only [opRun, hk, impliedRun, hx, xxxOp, decide_true, Bool.or_true]
    exact ⟨hm.1, hm.2.1, trivial, hm.2.2.2⟩
  · have h := (ran_modeRun i s).trans (ran_opRun hx _)
    simp only [hx, decide_false, Bool.or_false]
    exact h

end Sys2Proof.Machine
end

