-- ==== Sys2Proof/Laws/Cycles.lean ====
section
/-! SUPPORT. Which bus cycles a routine makes where no DMA is about: `Made b c plan` says that the bus
went from `b` to `c` by the cycles of `plan`, no more and no less (40_addressing_modes.md R150). -/

namespace Sys2Proof.Machine

/-- The bus went from `b` to `c` by the cycles of `plan`, first to last. -/
def Made (b c : Bus) (plan : List (Option (Bool × Word))) : Prop :=
  c.trace.map eventAccess = plan.reverse ++ b.trace.map eventAccess ∧
  c.cycle = b.cycle + plan.length

theorem Made.refl (b : Bus) : Made b b [] := ⟨by simp, rfl⟩

theorem Made.trans {b c d : Bus} {p q : List (Option (Bool × Word))} (h : Made b c p)
    (h' : Made c d q) : Made b d (p ++ q) := by
  refine ⟨?_, ?_⟩
  · rw [h'.1, h.1]; simp
  · rw [h'.2, h.2]; simp; omega

theorem made_read (i : Bool) (addr : Word) {b : Bus} (h : b.noDma) :
    Made b (b.read i addr).2 [rd addr] ∧ (b.read i addr).2.noDma := by
  rw [(noDma_read i addr h).1]
  refine ⟨⟨?_, ?_⟩, noDma_readCycle i addr h⟩
  · rw [readCycle_trace]; rfl
  · rw [readCycle_cycle]; rfl

theorem made_write (i : Bool) (addr : Word) (v : Byte) (b : Bus) :
    Made b (b.writeCycle i addr v) [wr addr] := by
  refine ⟨?_, ?_⟩
  · rw [writeCycle_trace]; rfl
  · rw [writeCycle_cycle]; rfl

theorem made_reads2 (i : Bool) (a1 a2 : Word) {b : Bus} (h : b.noDma) :
    Made b ((b.read i a1).2.read i a2).2 [rd a1, rd a2] ∧ ((b.read i a1).2.read i a2).2.noDma := by
  have h1 := made_read i a1 h
  have h2 := made_read i a2 h1.2
  exact ⟨h1.1.trans h2.1, h2.2⟩

/-- The reads of `n + 1` bytes from `pc` on are the first and the reads of the `n` after it. -/
theorem fetchReads_succ (pc : Word) (n : Nat) :
    (List.range (n + 1)).map (fun k => rd (pc + BitVec.ofNat 16 k)) =
      rd pc :: (List.range n).map (fun k => rd (pc + 1 + BitVec.ofNat 16 k)) := by
  rw [List.range_succ_eq_map, List.map_cons, List.map_map]
  refine congrArg₂ _ (by simp) (List.map_congr_left fun k _ => ?_)
  show rd (pc + BitVec.ofNat 16 (k + 1)) = _
  rw [BitVec.add_assoc]
  congr 2
  apply BitVec.eq_of_toNat_eq
  simp [Nat.add_comm]

/-- The operand fetch reads its bytes, one cycle each. -/
theorem made_fetchBytes (n : Nat) (s : State) (h : s.bus.noDma) :
    Made s.bus (fetchBytes n s).2.bus
      ((List.range n).map fun k => rd (s.pc + BitVec.ofNat 16 k)) ∧
    (fetchBytes n s).2.bus.noDma := by
  induction n generalizing s with
  | zero => exact ⟨.refl _, h⟩
  | succ n ih =>
    have h1 := made_read s.p.i s.pc h
    obtain ⟨a, b⟩ := ih (fetchByte s).2 h1.2
    rw [fetchReads_succ]
    exact ⟨h1.1.trans a, b⟩

/-- A push requests no DMA. -/
theorem noDma_push (i : Bool) (sp v : Byte) {b : Bus} (h : b.noDma) :
    (b.writeCycle i (stackAddr sp) v).noDma := by
  refine noDma_writeCycle i v h fun hh => ?_
  have := stackAddr_ram sp
  rw [hh] at this
  exact absurd this (by decide)

/-- The effect of a read-kind operation makes no cycle. -/
theorem readEffect_bus (e : Entry) (v : Byte) (s : State) : (readEffect e v s).bus = s.bus := by
  unfold readEffect
  generalize e.operation = o
  by_cases hm : e.mode = .IMM <;> simp only [hm, if_true, if_false] <;> cases o <;> rfl

/-- Nor does a new-value function, and it leaves I. -/
theorem modifyFn_bus (o : Operation) (v : Byte) (s : State) :
    (modifyFn o v s).2.bus = s.bus ∧ (modifyFn o v s).2.p.i = s.p.i := by
  unfold modifyFn
  cases o <;> exact ⟨rfl, rfl⟩

end Sys2Proof.Machine
end

