-- ==== Sys2Proof/Laws/Dma.lean ====
section
/-! SUPPORT. The DMA loop while a DMC DMA runs alone (60_exceptions.md R332): a cycle that waits, and the
cycle that reads the byte. -/

namespace Sys2Proof.Machine

/-- From `b0` by bus cycles: a DMC DMA runs, no OAM DMA, the halt cycle is paid, no request is to come. -/
structure DmcAlone (b0 b : Bus) : Prop where
  run   : BusRun DmaWrites b0 b
  oam   : b.oamDma = false
  dmc   : b.dmcDma = true
  halt  : b.halt = false
  addr  : b.dmcDmaAddr = b0.dmcDmaAddr
  quiet : ∀ inp ∈ b.inputs, inp.dmcReq = none

/-- A request raised at a cycle's catch-up (R331). -/
theorem beginCycle_request {b : Bus} {inp : BusInput} {rest : List BusInput} {target : Word}
    (h1 : b.inputs = inp :: rest) (h2 : inp.dmcReq = some target) :
    (beginCycle b).dmcDma = true ∧ (beginCycle b).halt = true ∧
    (beginCycle b).dummyRead = true ∧ (beginCycle b).dmcDmaAddr = target := by
  unfold beginCycle catchUp
  simp only [h1, h2]
  exact ⟨rfl, rfl, rfl, rfl⟩

theorem dmaPayDebt_noHalt {b : Bus} (h : b.halt = false) :
    dmaPayDebt b = { b with dummyRead := false } := by
  unfold dmaPayDebt
  rw [h]
  cases hd : b.dummyRead
  · obtain ⟨⟩ := b
    simp_all
  · rfl

/-- The one event of a waiting cycle. -/
theorem dmaWait_event (i : Bool) (addr : Word) (b : Bus) :
    ∃ e, (dmaWait i (dmaSkips addr) addr b).trace = e :: b.trace ∧
      eventAccess e = if addr = 0x4016#16 ∨ addr = 0x4017#16 then none else rd addr := by
  unfold dmaWait dmaSkips
  by_cases h : addr = 0x4016#16 ∨ addr = 0x4017#16
  · have h' : (decide (addr = 0x4016#16) || decide (addr = 0x4017#16)) = true := by simpa using h
    rw [if_pos h, if_pos h']
    exact ⟨_, idleCycle_trace _ _, rfl⟩
  · have h' : ¬ (decide (addr = 0x4016#16) || decide (addr = 0x4017#16)) = true := by simpa using h
    rw [if_neg h, if_neg h']
    exact ⟨_, readCycle_trace _ _ _, rfl⟩

/-- A waiting cycle pays the dummy cycle and leaves the DMC DMA running. -/
theorem DmcAlone.wait {b0 b : Bus} (h : DmcAlone b0 b) (i skip : Bool) (addr : Word) :
    DmcAlone b0 (dmaWait i skip addr (dmaPayDebt b)) ∧
    (dmaWait i skip addr (dmaPayDebt b)).dummyRead = false ∧
    (dmaWait i skip addr (dmaPayDebt b)).cycle = b.cycle + 1 := by
  rw [dmaPayDebt_noHalt h.halt]
  have hq : ∀ inp ∈ ({ b with dummyRead := false } : Bus).inputs, inp.dmcReq = none := h.quiet
  have hr : BusRun DmaWrites b0 { b with dummyRead := false } := h.run.dma _ _ _ false _
  unfold dmaWait
  split
  · obtain ⟨x1, x2, x3, x4⟩ := idleCycle_dma i hq
    exact ⟨⟨hr.idle i, (idleCycle_oamDma _ _).trans h.oam, x2.trans h.dmc, x1.trans h.halt,
      x4.trans h.addr, by rw [idleCycle_inputs]; exact mem_tail hq⟩, x3, idleCycle_cycle _ _⟩
  · obtain ⟨x1, x2, x3, x4⟩ := readCycle_dma i addr hq
    exact ⟨⟨hr.read i addr, (readCycle_oamDma _ _ _).trans h.oam, x2.trans h.dmc,
      x1.trans h.halt, x4.trans h.addr, by rw [readCycle_inputs]; exact mem_tail hq⟩, x3,
      readCycle_cycle _ _ _⟩

/-- The loop waits in an odd-numbered slot, or while the dummy cycle is owed. -/
theorem DmcAlone.loop_wait {b0 b : Bus} (h : DmcAlone b0 b)
    (hw : b.cycle % 2 = 1 ∨ b.dummyRead = true) (i skip : Bool) (addr : Word) (fuel : Nat)
    (idx : Byte) (n : Nat) (latch : Byte) :
    dmaLoop i skip addr (fuel + 1) idx n latch b =
      dmaLoop i skip addr fuel idx n latch (dmaWait i skip addr (dmaPayDebt b)) := by
  simp only [dmaLoop, h.oam, h.dmc, h.halt]
  rcases hw with hw | hw
  · rw [if_pos (by simp), if_neg (by omega), if_neg (by simp)]
  · rw [hw]
    by_cases he : b.cycle % 2 = 0
    · rw [if_pos (by simp), if_pos he, if_neg (by simp), if_neg (by simp)]
    · rw [if_pos (by simp), if_neg he, if_neg (by simp)]

/-- Else it reads the byte, hands it over, and ends. -/
theorem DmcAlone.loop_read {b0 b : Bus} (h : DmcAlone b0 b) (he : b.cycle % 2 = 0)
    (hd : b.dummyRead = false) (i skip : Bool) (addr : Word) (fuel : Nat) (idx : Byte) (n : Nat)
    (latch : Byte) :
    dmaLoop i skip addr (fuel + 2) idx n latch b =
      { (b.readCycle i b0.dmcDmaAddr).2 with
          dmcDma := false, dmcBuffer := some (b.readCycle i b0.dmcDmaAddr).1 } := by
  have hp : dmaPayDebt b = b := by unfold dmaPayDebt; rw [h.halt, hd]; rfl
  rw [dmaLoop]
  simp only [h.oam, h.dmc, h.halt, hd, hp, h.addr, he]
  simp only [dmaLoop, readCycle_oamDma, h.oam]
  rfl

end Sys2Proof.Machine
end

