-- ==== Sys2Proof/Laws/Flags.lean ====
section
/-!
SUPPORT. The flag computations of the machine are the arithmetic of Safety.lean.
-/

namespace Sys2Proof.Machine

theorem setZn_eq (v : Byte) (p : Flags) : p.setZn v = znSpec v p := by
  simp only [Flags.setZn, znSpec, beq_eq_decide, BitVec.msb_eq_getLsbD_last]

theorem compare_eq (r v : Byte) (p : Flags) : p.compare r v = compareSpec r v p := by
  have h : decide (r - v = 0#8) = decide (r = v) := by
    rw [decide_eq_decide]
    exact ⟨fun h => by bv_omega, fun h => by simp [h]⟩
  simp only [Flags.compare, setZn_eq, znSpec, compareSpec, h]

theorem msb_eq_decide (v : Byte) : v.msb = decide (128 ≤ v.toNat) := by
  rw [BitVec.msb_eq_decide]

theorem getLsbD_zero_eq (v : Byte) : v.getLsbD 0 = decide (v.toNat % 2 = 1) := by
  revert v; decide

theorem getLsbD_seven_eq (v : Byte) : v.getLsbD 7 = decide (128 ≤ v.toNat) := by
  rw [← msb_eq_decide, BitVec.msb_eq_getLsbD_last]

theorem aslBits_eq (v : Byte) (p : Flags) : aslBits v p = shiftSpec .ASL v p := by
  simp only [aslBits, shiftSpec, getLsbD_seven_eq]
  congr 1

theorem lsrBits_eq (v : Byte) (p : Flags) : lsrBits v p = shiftSpec .LSR v p := by
  simp only [lsrBits, shiftSpec, getLsbD_zero_eq]
  congr 1
  apply BitVec.eq_of_toNat_eq
  have := v.isLt
  simp [Nat.shiftRight_eq_div_pow]
  omega

theorem rolByte_eq (v : Byte) (c : Bool) :
    (v <<< 1) ||| flagBit c 0 = BitVec.ofNat 8 (2 * v.toNat + c.toNat) := by
  revert c v; decide

theorem rorByte_eq (v : Byte) (c : Bool) :
    (v >>> 1) ||| flagBit c 7 = BitVec.ofNat 8 (v.toNat / 2 + 128 * c.toNat) := by
  revert c v; decide

theorem rolBits_eq (v : Byte) (p : Flags) : rolBits v p = shiftSpec .ROL v p := by
  simp only [rolBits, shiftSpec, getLsbD_seven_eq, rolByte_eq]

theorem rorBits_eq (v : Byte) (p : Flags) : rorBits v p = shiftSpec .ROR v p := by
  simp only [rorBits, shiftSpec, getLsbD_zero_eq, rorByte_eq]

theorem and_0x80_eq_zero (v : Byte) : decide (v &&& 0x80#8 = 0#8) = !v.msb := by
  revert v; decide

theorem and_0x80_ne_zero (v : Byte) : decide (v &&& 0x80#8 ≠ 0#8) = v.msb := by
  revert v; decide

theorem toInt_eq (v : Byte) :
    v.toInt = if 128 ≤ v.toNat then (v.toNat : Int) - 256 else v.toNat := by
  rw [BitVec.toInt_eq_toNat_cond]
  split <;> split <;> omega

/-- The source's overflow formula for a sum is signed overflow (42_alu.md R180). -/
theorem adc_overflow (a v : Byte) (c : Bool) :
    (decide ((a ^^^ v) &&& 0x80#8 = 0#8) &&
      decide ((a ^^^ BitVec.ofNat 8 (a.toNat + v.toNat + c.toNat)) &&& 0x80#8 ≠ 0#8)) =
    outOfSigned (a.toInt + v.toInt + c.toNat) := by
  have ha := a.isLt
  have hv := v.isLt
  have hc : c.toNat ≤ 1 := Bool.toNat_le c
  rw [and_0x80_eq_zero, and_0x80_ne_zero, BitVec.msb_xor, BitVec.msb_xor]
  simp only [msb_eq_decide, BitVec.toNat_ofNat, outOfSigned, toInt_eq]
  generalize c.toNat = k at *
  generalize a.toNat = m at *
  generalize v.toNat = n at *
  by_cases h1 : 128 ≤ m <;> by_cases h2 : 128 ≤ n <;> by_cases h3 : 128 ≤ (m + n + k) % 2 ^ 8 <;>
    simp only [h1, h2, h3, decide_true, decide_false, if_true, if_false, bne_self_eq_false,
      Bool.not_false, Bool.true_and, Bool.not_true, Bool.false_and, Bool.bne_true,
      Bool.bne_false] <;>
    simp only [true_eq_decide_iff, false_eq_decide_iff] <;> omega

theorem adcFlags_eq (a v : Byte) (p : Flags) : adcFlags a v p = addSpec a v p := by
  simp only [adcFlags, addSpec, arithFlags, adc_overflow, Flags.setZn, BitVec.msb_eq_getLsbD_last]
  rfl

/-- A difference with borrow is a sum with the complement and the carry (42_alu.md R181). -/
theorem sub_ofInt (a v : Byte) (c : Bool) :
    BitVec.ofInt 8 ((a.toNat : Int) - v.toNat - (1 - c.toNat)) =
      BitVec.ofNat 8 (a.toNat + (255 - v.toNat) + c.toNat) := by
  have hv := v.isLt
  apply BitVec.eq_of_toNat_eq
  simp only [BitVec.toNat_ofInt, BitVec.toNat_ofNat]
  omega

theorem compl_toNat (v : Byte) : (v ^^^ 0xFF#8).toNat = 255 - v.toNat := by
  revert v; decide

theorem compl_toInt (v : Byte) : (v ^^^ 0xFF#8).toInt = -1 - v.toInt := by
  revert v; decide

/-- SBC's result and flags are those of ADC with the complement. -/
theorem subSpec_eq (a v : Byte) (p : Flags) : subSpec a v p = addSpec a (v ^^^ 0xFF#8) p := by
  have hc : p.c.toNat ≤ 1 := Bool.toNat_le _
  have hv := v.isLt
  simp only [subSpec, addSpec, sub_ofInt, compl_toNat, compl_toInt]
  congr 2
  · rw [decide_eq_decide]; omega
  · congr 1; omega

/-- The formula for a difference, its first conjunct inverted, is signed overflow. -/
theorem sbc_overflow (a v : Byte) (p : Flags) :
    (decide ((a ^^^ v) &&& 0x80#8 ≠ 0#8) &&
      decide ((a ^^^ (subSpec a v p).1) &&& 0x80#8 ≠ 0#8)) = (subSpec a v p).2.v := by
  rw [subSpec_eq]
  have h := adc_overflow a (v ^^^ 0xFF#8) p.c
  have hx : decide ((a ^^^ v) &&& 0x80#8 ≠ 0#8) =
      decide ((a ^^^ (v ^^^ 0xFF#8)) &&& 0x80#8 = 0#8) := by
    rw [and_0x80_ne_zero, and_0x80_eq_zero]
    rw [BitVec.msb_xor, BitVec.msb_xor, BitVec.msb_xor, show (0xFF#8).msb = true from rfl]
    cases a.msb <;> cases v.msb <;> rfl
  rw [hx]
  exact h

theorem sbcFlags_eq (a v : Byte) (p : Flags) : sbcFlags a v p = subSpec a v p := by
  have h := sbc_overflow a v p
  have hc : p.c.toNat ≤ 1 := Bool.toNat_le _
  simp only [sbcFlags, Flags.setZn]
  simp only [subSpec, arithFlags] at h ⊢
  refine Prod.ext rfl ?_
  simp only [Flags.mk.injEq]
  refine ⟨?_, trivial, trivial, trivial, h, (BitVec.msb_eq_getLsbD_last _).symm⟩
  rw [decide_eq_decide]
  omega

theorem anc_eq (r : Byte) (p : Flags) : p.anc r = { znSpec r p with c := r.msb } := by
  simp only [Flags.anc, setZn_eq, BitVec.msb_eq_getLsbD_last]

theorem arrBits_eq (t : Byte) (p : Flags) :
    arrBits t p = ((shiftSpec .ROR t p).1,
      { znSpec (shiftSpec .ROR t p).1 p with
        c := (shiftSpec .ROR t p).1.getLsbD 6,
        v := (shiftSpec .ROR t p).1.getLsbD 6 ^^ (shiftSpec .ROR t p).1.getLsbD 5 }) := by
  simp only [arrBits, setZn_eq, rorByte_eq, shiftSpec]

end Sys2Proof.Machine
end

