-- ==== Sys2Proof/Laws/Reset.lean ====
section
/-! SUPPORT. What the common part of both resets does (70_reset_and_hazards.md R393): the vector it reads,
and what seven cycles without an access leave of the bus. -/

namespace Sys2Proof.Machine

/-- A read outside the PPU's registers leaves the port. -/
theorem busRead_ppu_keep {addr : Word} (h : ∀ r, busTarget addr ≠ .ppu r) (b : Bus) :
    (busRead addr b).2.ppu = b.ppu := by
  have he : (envByte b).2.ppu = b.ppu := by unfold envByte; split <;> rfl
  unfold busRead
  split
  · rfl
  · rename_i r hr; exact absurd hr (h r)
  · exact he
  · exact he
  · split
    · rfl
    · split
      · exact he
      · rfl
      · rfl

/-- A readable window answers with its byte where no agent drives the bus. -/
theorem busRead_cart {b : Bus} (hd : b.dataIn = none) {addr : Word} (ha : 0x4020 ≤ addr.toNat)
    (hw : windowAccess b.windows addr.toNat ≠ .none) :
    (busRead addr b).1 = Memory.byteAt b.mem addr.toNat := by
  unfold busRead
  rw [busTarget_cart ha, hd]
  dsimp only
  cases hh : windowAccess b.windows addr.toNat <;> simp_all

/-! ## Cycles without an access -/

theorem idleCycle_ppu (i : Bool) {b : Bus} (h : ∀ inp ∈ b.inputs, inp.ppu = none) :
    (b.idleCycle i).ppu = b.ppu := beginCycle_ppu h

/-- What every idle cycle keeps, `n` of them keep. -/
theorem idleCycles_keep {i : Bool} {P : Bus → Prop} (hP : ∀ b, P b → P (b.idleCycle i)) (n : Nat)
    {b : Bus} (h : P b) : P (idleCycles i n b) := by
  induction n generalizing b with
  | zero => exact h
  | succ n ih => exact ih (hP b h)

theorem idleCycles_cycle (i : Bool) (n : Nat) (b : Bus) :
    (idleCycles i n b).cycle = b.cycle + n := by
  induction n generalizing b with
  | zero => rfl
  | succ n ih =>
    show (idleCycles i n (b.idleCycle i)).cycle = _
    rw [ih, idleCycle_cycle]
    omega

/-- No DMA is about, and none will be asked for. -/
theorem noDma_idleCycle (i : Bool) {b : Bus} (h : b.noDma ∧ b.dummyRead = false) :
    (b.idleCycle i).noDma ∧ (b.idleCycle i).dummyRead = false := by
  obtain ⟨x1, x2, x3, -⟩ := idleCycle_dma i h.1.2
  refine ⟨⟨?_, by rw [idleCycle_inputs]; exact mem_tail h.1.2⟩, x3.trans h.2⟩
  rw [Bus.dmaPending, x1, x2, idleCycle_oamDma]
  exact h.1.1

/-- No NMI is pending, the PPU's line is low, and the PPU keeps it so. -/
def Bus.lineLow (b : Bus) : Prop :=
  b.nmi = false ∧ b.prevNmi = false ∧ b.nmiLinePrev = false ∧ b.nmiLine = false ∧
  ∀ inp ∈ b.inputs, inp.ppu = none

theorem lineLow_idleCycle (i : Bool) {b : Bus} (h : b.lineLow) : (b.idleCycle i).lineLow := by
  obtain ⟨h1, -, -, h4, h5⟩ := h
  obtain ⟨a1, a2, a3, -⟩ := sampled_idleCycle i b
  have hl : (b.idleCycle i).nmiLine = false := by
    unfold Bus.nmiLine at h4 ⊢
    rw [idleCycle_ppu i h5]
    exact h4
  exact ⟨by rw [a2, hl, h1]; rfl, a1.trans h1, a3.trans hl, hl,
    by rw [idleCycle_inputs]; exact mem_tail h5⟩

theorem runIrq_idleCycle {b : Bus} (h : b.runIrq = false ∧ b.prevRunIrq = false) :
    (b.idleCycle true).runIrq = false ∧ (b.idleCycle true).prevRunIrq = false := by
  have hs := (sampled_idleCycle true b).2.2.2.2.2
  exact ⟨by rw [hs.2]; simp, by rw [hs.1, h.1]⟩

/-! ## The common part of both resets -/

theorem resetCommon_bus_eq (s : State) : (resetCommon s).bus =
    idleCycles s.p.i 7 (vectorRead 0xFFFC#16 s.bus.resetLatches).2 := rfl

theorem vectorRead_ppu (b : Bus) : (vectorRead 0xFFFC#16 b).2.ppu = b.ppu := by
  have hk : ∀ a : Word, 0x4020 ≤ a.toNat → ∀ r, busTarget a ≠ .ppu r :=
    fun a ha r => by rw [busTarget_cart ha]; simp
  unfold vectorRead
  dsimp only
  rw [busRead_ppu_keep (hk _ (by decide)), busRead_ppu_keep (hk _ (by decide))]

/-- `PC` is the vector's two bytes, those of the cartridge where its windows can be read. -/
theorem resetCommon_pc (s : State) : ∃ l h, (resetCommon s).pc = mk16 h l ∧
    (windowAccess s.bus.windows 0xFFFC ≠ .none → l = Memory.byteAt s.bus.mem 0xFFFC) ∧
    (windowAccess s.bus.windows 0xFFFD ≠ .none → h = Memory.byteAt s.bus.mem 0xFFFD) := by
  refine ⟨_, _, rfl, fun hw => busRead_cart (b := s.bus.resetLatches) rfl (by decide) hw, fun hw => ?_⟩
  have hm : (busRead 0xFFFC#16 s.bus.resetLatches).2.mem = s.bus.mem := by rw [busRead_frame]; rfl
  rw [← hm]
  exact busRead_cart (by rw [busRead_frame]; rfl) (addr := 0xFFFD#16) (by decide)
    (by rw [busRead_frame]; exact hw)

/-- What the seven cycles of a reset keep holds after it, if the bus has it after the
vector read. -/
theorem resetCommon_keep (s : State) {P : Bus → Prop}
    (hP : ∀ b, P b → P (b.idleCycle s.p.i)) (hv : P (vectorRead 0xFFFC#16 s.bus.resetLatches).2) :
    P (resetCommon s).bus := idleCycles_keep hP 7 hv

/-- The count, memory and the IRQ mask after a reset. -/
theorem resetCommon_bus (s : State) :
    (resetCommon s).bus.cycle = 7 ∧ (resetCommon s).bus.mem = s.bus.mem ∧
    (resetCommon s).bus.oamDma = false ∧ (resetCommon s).bus.irq = (resetCommon s).bus.irqLines := by
  have hv := vectorRead_frame 0xFFFC#16 s.bus.resetLatches
  refine ⟨?_, ?_, ?_, ?_⟩
  · rw [resetCommon_bus_eq, idleCycles_cycle, hv]; rfl
  · exact resetCommon_keep s (P := fun b => b.mem = s.bus.mem)
      (fun b h => (idleCycle_mem _ b).trans h) (by rw [hv]; rfl)
  · exact resetCommon_keep s (P := fun b => b.oamDma = false)
      (fun b h => (idleCycle_oamDma _ b).trans h) (by rw [hv]; rfl)
  · rw [resetCommon_bus_eq]
    generalize (vectorRead 0xFFFC#16 s.bus.resetLatches).2 = v
    rfl

/-- Every DMA is discarded, where none is requested anew. -/
theorem resetCommon_noDma (s : State) (h : ∀ inp ∈ s.bus.inputs, inp.dmcReq = none) :
    (resetCommon s).bus.noDma ∧ (resetCommon s).bus.dummyRead = false := by
  have hv := vectorRead_frame 0xFFFC#16 s.bus.resetLatches
  exact resetCommon_keep s (P := fun b => b.noDma ∧ b.dummyRead = false)
    (fun _ => noDma_idleCycle _) ⟨⟨by rw [hv]; rfl, by rw [hv]; exact h⟩, by rw [hv]; rfl⟩

/-- A pending NMI is discarded, where the line is low and stays so. -/
theorem resetCommon_lineLow (s : State) (h1 : s.bus.nmiLine = false)
    (h2 : ∀ inp ∈ s.bus.inputs, inp.ppu = none) : (resetCommon s).bus.lineLow := by
  have hv := vectorRead_frame 0xFFFC#16 s.bus.resetLatches
  have hp : (vectorRead 0xFFFC#16 s.bus.resetLatches).2.nmiLine = s.bus.nmiLine := by
    unfold Bus.nmiLine
    rw [vectorRead_ppu]
    rfl
  exact resetCommon_keep s (fun _ => lineLow_idleCycle _)
    ⟨by rw [hv]; rfl, by rw [hv]; rfl, by rw [hv]; rfl, hp.trans h1, by rw [hv]; exact h2⟩

/-- With I set no IRQ is runnable. -/
theorem resetCommon_runIrq (s : State) (h : s.p.i = true) :
    (resetCommon s).bus.runIrq = false ∧ (resetCommon s).bus.prevRunIrq = false := by
  have hv := vectorRead_frame 0xFFFC#16 s.bus.resetLatches
  exact resetCommon_keep s (P := fun b => b.runIrq = false ∧ b.prevRunIrq = false)
    (fun _ => by rw [h]; exact runIrq_idleCycle) ⟨by rw [hv]; rfl, by rw [hv]; rfl⟩

end Sys2Proof.Machine
end

