-- ==== Sys2Proof/Tests/Slice0.lean ====
section
/-! SUPPORT. Tests. Expected results come from the spec: the opcode matrix of 30_encoding.md for the
decoder, the vectors of 95_test_vectors.md sections 2 and 3 for the steps, worked examples of the rules
elsewhere. The last part shows, for every obligation with hypotheses, a state and operands that meet
them. -/

open Sys2Proof Sys2Proof.Machine

/-! ## Ill-formed terms are refused -/

theorem test_window_reversed_refused :
    CartWindow.WellFormed { first := 0x9000, last := 0x8000, access := .read } = false := by decide

theorem test_window_below_cartridge_refused :
    CartWindow.WellFormed { first := 0x401F, last := 0x8000, access := .read } = false := by decide

theorem test_window_past_end_refused :
    CartWindow.WellFormed { first := 0x8000, last := 0x10000, access := .read } = false := by decide

theorem test_input_with_ill_formed_window_refused :
    BusInput.WellFormed { data := none, irqLines := .none, ppu := none, dmcReq := none,
                          windows := some [{ first := 0, last := 0x8000, access := .read }] } = false := by
  decide

theorem test_input_with_ill_formed_request_refused :
    BusInput.WellFormed { data := none, irqLines := .none, ppu := none, dmcReq := some 0x401F#16,
                          windows := none } = false := by decide

theorem test_flat_cartridge_well_formed :
    flatCartridge.all CartWindow.WellFormed = true := by decide

/-! ## Decoding: one written-out word, or more, of every family (30_encoding.md R104) -/

theorem test_decode_load : decode [0xB1#8, 0x20#8] = .ok (.ldaIdy 0x20#8, []) := by decide
theorem test_decode_store : decode [0x8D#8, 0x14#8, 0x40#8] = .ok (.staAbs 0x4014#16, []) := by decide
theorem test_decode_transfer : decode [0xBA#8] = .ok (.tsx, []) := by decide
theorem test_decode_arithmetic : decode [0xE9#8, 0xB0#8] = .ok (.sbcImm 0xB0#8, []) := by decide
theorem test_decode_compare : decode [0xC4#8, 0x10#8] = .ok (.cpyZp0 0x10#8, []) := by decide
theorem test_decode_shift : decode [0x5E#8, 0x00#8, 0x02#8] = .ok (.lsrAbx 0x0200#16, []) := by decide
theorem test_decode_branch : decode [0x30#8, 0x80#8] = .ok (.bmi 0x80#8, []) := by decide
theorem test_decode_jump : decode [0x20#8, 0x00#8, 0x90#8] = .ok (.jsr 0x9000#16, []) := by decide
theorem test_decode_stack : decode [0x28#8, 0xEA#8] = .ok (.plp, [0xEA#8]) := by decide
theorem test_decode_flag : decode [0x58#8] = .ok (.cli, []) := by decide
theorem test_decode_system : decode [0x40#8] = .ok (.rti, []) := by decide
theorem test_decode_unofficial : decode [0x13#8, 0x20#8] = .ok (.sloIdy 0x20#8, []) := by decide
theorem test_decode_duplicate_sbc :
    decode [0xEB#8, 0x01#8] = .ok (.sbcImm_EB 0x01#8, []) := by decide
theorem test_decode_jam : decode [0x02#8] = .ok (.xxx_02, []) := by decide

/-- An instruction whose operand bytes are missing is refused by name. -/
theorem test_decode_short : decode [0xAD#8, 0x00#8] = .error (.truncated 0xAD#8) := by decide

/-! ## One step at a time -/

/-- The memory with these bytes listed. -/
def listed (cells : List (Nat × Byte)) : Memory :=
  cells.foldl (fun m c => Memory.set m c.1 c.2) []

/-- The machine after a reset with the given A, X, Y, SP, P, PC and memory. -/
def start (a x y sp p : Byte) (pc : Word) (cells : List (Nat × Byte)) : State :=
  { State.reset with
    a := a, x := x, y := y, sp := sp, p := .ofByte p, pc := pc
    bus := { Bus.reset with mem := listed cells } }

/-- One step from `s` ends with these registers, stored bytes and bus cycles. -/
def endsAs (s : State) (a x y sp p : Byte) (pc : Word) (stored : List (Nat × Byte))
    (cycles : List (Option (Bool × Word))) : Bool :=
  match step s with
  | .next t =>
    decide (t.a = a) && decide (t.x = x) && decide (t.y = y) && decide (t.sp = sp) &&
    decide (t.p.toByte = p) && decide (t.pc = pc) &&
    stored.all (fun c => Memory.read? t.bus.mem c.1 == some c.2) &&
    decide (t.bus.cycle = s.bus.cycle + cycles.length) &&
    decide ((t.bus.trace.take cycles.length).reverse.map eventAccess = cycles)
  | .fault _ => false
  | .refused _ => false

/-! ### 95_test_vectors.md section 2: registers, status byte, stored bytes and every bus cycle -/

/-- R160. -/
theorem test_lda_12ff_x : endsAs
    (start 0x00 0x01 0x00 0xFD 0x24 0x8000 [(0x0300, 0x7F), (0x8000, 0xBD), (0x8001, 0xFF), (0x8002, 0x12)])
    0x7F 0x01 0x00 0xFD 0x24 0x8003 []
    [rd 0x8000, rd 0x8001, rd 0x8002, rd 0x1200, rd 0x1300] = true := by decide

/-- R160. -/
theorem test_lda_ff_y : endsAs
    (start 0x00 0x00 0x10 0xFD 0x24 0x8000 [(0x0000, 0x02), (0x00FF, 0xF8), (0x0308, 0x99), (0x8000, 0xB1), (0x8001, 0xFF)])
    0x99 0x00 0x10 0xFD 0xA4 0x8002 []
    [rd 0x8000, rd 0x8001, rd 0x00FF, rd 0x0000, rd 0x0208, rd 0x0308] = true := by decide

/-- R160. -/
theorem test_lda_fe_x : endsAs
    (start 0x00 0x01 0x00 0xFD 0x24 0x8000 [(0x0000, 0x02), (0x00FF, 0x34), (0x0234, 0x11), (0x8000, 0xA1), (0x8001, 0xFE)])
    0x11 0x01 0x00 0xFD 0x24 0x8002 []
    [rd 0x8000, rd 0x8001, rd 0x00FE, rd 0x00FF, rd 0x0000, rd 0x0234] = true := by decide

/-- R161. -/
theorem test_ldx_f0_y : endsAs
    (start 0x00 0x00 0x20 0xFD 0x24 0x8000 [(0x0010, 0xFF), (0x8000, 0xB6), (0x8001, 0xF0)])
    0x00 0xFF 0x20 0xFD 0xA4 0x8002 []
    [rd 0x8000, rd 0x8001, rd 0x00F0, rd 0x0010] = true := by decide

/-- R162. -/
theorem test_ldy_80_x : endsAs
    (start 0x00 0xFF 0x00 0xFD 0x24 0x8000 [(0x007F, 0x00), (0x8000, 0xB4), (0x8001, 0x80)])
    0x00 0xFF 0x00 0xFD 0x26 0x8002 []
    [rd 0x8000, rd 0x8001, rd 0x0080, rd 0x007F] = true := by decide

/-- R163. -/
theorem test_sta_20_y : endsAs
    (start 0x42 0x00 0xFF 0xFD 0x24 0x8000 [(0x0020, 0x01), (0x0021, 0x03), (0x8000, 0x91), (0x8001, 0x20)])
    0x42 0x00 0xFF 0xFD 0x24 0x8002 [(0x0400, 0x42)]
    [rd 0x8000, rd 0x8001, rd 0x0020, rd 0x0021, rd 0x0300, wr 0x0400] = true := by decide

/-- R164. -/
theorem test_stx_10_y : endsAs
    (start 0x00 0x77 0xF8 0xFD 0x24 0x8000 [(0x8000, 0x96), (0x8001, 0x10)])
    0x00 0x77 0xF8 0xFD 0x24 0x8002 [(0x0008, 0x77)]
    [rd 0x8000, rd 0x8001, rd 0x0010, wr 0x0008] = true := by decide

/-- R165. -/
theorem test_sty_0300 : endsAs
    (start 0x00 0x00 0x80 0xFD 0x26 0x8000 [(0x8000, 0x8C), (0x8001, 0x00), (0x8002, 0x03)])
    0x00 0x00 0x80 0xFD 0x26 0x8003 [(0x0300, 0x80)]
    [rd 0x8000, rd 0x8001, rd 0x8002, wr 0x0300] = true := by decide

/-- R166. -/
theorem test_tax : endsAs
    (start 0x00 0x55 0x00 0xFD 0x24 0x8000 [(0x8000, 0xAA)])
    0x00 0x00 0x00 0xFD 0x26 0x8001 []
    [rd 0x8000, rd 0x8001] = true := by decide

/-- R167. -/
theorem test_tay : endsAs
    (start 0x80 0x00 0x00 0xFD 0x24 0x8000 [(0x8000, 0xA8)])
    0x80 0x00 0x80 0xFD 0xA4 0x8001 []
    [rd 0x8000, rd 0x8001] = true := by decide

/-- R168. -/
theorem test_txa : endsAs
    (start 0x00 0xFF 0x00 0xFD 0x24 0x8000 [(0x8000, 0x8A)])
    0xFF 0xFF 0x00 0xFD 0xA4 0x8001 []
    [rd 0x8000, rd 0x8001] = true := by decide

/-- R169. -/
theorem test_tya : endsAs
    (start 0x01 0x00 0x00 0xFD 0x24 0x8000 [(0x8000, 0x98)])
    0x00 0x00 0x00 0xFD 0x26 0x8001 []
    [rd 0x8000, rd 0x8001] = true := by decide

/-- R170. -/
theorem test_tsx : endsAs
    (start 0x00 0x00 0x00 0x00 0x24 0x8000 [(0x8000, 0xBA)])
    0x00 0x00 0x00 0x00 0x26 0x8001 []
    [rd 0x8000, rd 0x8001] = true := by decide

/-- R171. -/
theorem test_txs : endsAs
    (start 0x00 0x00 0x00 0xFD 0xA4 0x8000 [(0x8000, 0x9A)])
    0x00 0x00 0x00 0x00 0xA4 0x8001 []
    [rd 0x8000, rd 0x8001] = true := by decide

/-- R180. -/
theorem test_adc_imm_50 : endsAs
    (start 0x50 0x00 0x00 0xFD 0x24 0x8000 [(0x8000, 0x69), (0x8001, 0x50)])
    0xA0 0x00 0x00 0xFD 0xE4 0x8002 []
    [rd 0x8000, rd 0x8001] = true := by decide

/-- R180. -/
theorem test_adc_imm_09_d_set : endsAs
    (start 0x09 0x00 0x00 0xFD 0x2C 0x8000 [(0x8000, 0x69), (0x8001, 0x09)])
    0x12 0x00 0x00 0xFD 0x2C 0x8002 []
    [rd 0x8000, rd 0x8001] = true := by decide

/-- R181. -/
theorem test_sbc_imm_b0 : endsAs
    (start 0x50 0x00 0x00 0xFD 0x25 0x8000 [(0x8000, 0xE9), (0x8001, 0xB0)])
    0xA0 0x00 0x00 0xFD 0xE4 0x8002 []
    [rd 0x8000, rd 0x8001] = true := by decide

/-- R181. -/
theorem test_sbc_imm_01 : endsAs
    (start 0x80 0x00 0x00 0xFD 0x25 0x8000 [(0x8000, 0xE9), (0x8001, 0x01)])
    0x7F 0x00 0x00 0xFD 0x65 0x8002 []
    [rd 0x8000, rd 0x8001] = true := by decide

/-- R182. -/
theorem test_and_imm_0f : endsAs
    (start 0xF0 0x00 0x00 0xFD 0x24 0x8000 [(0x8000, 0x29), (0x8001, 0x0F)])
    0x00 0x00 0x00 0xFD 0x26 0x8002 []
    [rd 0x8000, rd 0x8001] = true := by decide

/-- R183. -/
theorem test_ora_10 : endsAs
    (start 0x01 0x00 0x00 0xFD 0x24 0x8000 [(0x0010, 0x80), (0x8000, 0x05), (0x8001, 0x10)])
    0x81 0x00 0x00 0xFD 0xA4 0x8002 []
    [rd 0x8000, rd 0x8001, rd 0x0010] = true := by decide

/-- R184. -/
theorem test_eor_imm_ff : endsAs
    (start 0xFF 0x00 0x00 0xFD 0x24 0x8000 [(0x8000, 0x49), (0x8001, 0xFF)])
    0x00 0x00 0x00 0xFD 0x26 0x8002 []
    [rd 0x8000, rd 0x8001] = true := by decide

/-- R185. -/
theorem test_bit_10 : endsAs
    (start 0x01 0x00 0x00 0xFD 0x24 0x8000 [(0x0010, 0xC0), (0x8000, 0x24), (0x8001, 0x10)])
    0x01 0x00 0x00 0xFD 0xE6 0x8002 []
    [rd 0x8000, rd 0x8001, rd 0x0010] = true := by decide

/-- R186. -/
theorem test_cmp_imm_41 : endsAs
    (start 0x40 0x00 0x00 0xFD 0x24 0x8000 [(0x8000, 0xC9), (0x8001, 0x41)])
    0x40 0x00 0x00 0xFD 0xA4 0x8002 []
    [rd 0x8000, rd 0x8001] = true := by decide

/-- R186. -/
theorem test_cmp_imm_ff : endsAs
    (start 0x00 0x00 0x00 0xFD 0x64 0x8000 [(0x8000, 0xC9), (0x8001, 0xFF)])
    0x00 0x00 0x00 0xFD 0x64 0x8002 []
    [rd 0x8000, rd 0x8001] = true := by decide

/-- R187. -/
theorem test_cpx_imm_10 : endsAs
    (start 0x00 0x80 0x00 0xFD 0x24 0x8000 [(0x8000, 0xE0), (0x8001, 0x10)])
    0x00 0x80 0x00 0xFD 0x25 0x8002 []
    [rd 0x8000, rd 0x8001] = true := by decide

/-- R188. -/
theorem test_cpy_10 : endsAs
    (start 0x00 0x00 0x00 0xFD 0x24 0x8000 [(0x0010, 0x01), (0x8000, 0xC4), (0x8001, 0x10)])
    0x00 0x00 0x00 0xFD 0xA4 0x8002 []
    [rd 0x8000, rd 0x8001, rd 0x0010] = true := by decide

/-- R189. -/
theorem test_inc_10 : endsAs
    (start 0x00 0x00 0x00 0xFD 0x24 0x8000 [(0x0010, 0xFF), (0x8000, 0xE6), (0x8001, 0x10)])
    0x00 0x00 0x00 0xFD 0x26 0x8002 [(0x0010, 0x00)]
    [rd 0x8000, rd 0x8001, rd 0x0010, wr 0x0010, wr 0x0010] = true := by decide

/-- R189. -/
theorem test_inc_02ff_x : endsAs
    (start 0x00 0x01 0x00 0xFD 0x24 0x8000 [(0x0300, 0x7F), (0x8000, 0xFE), (0x8001, 0xFF), (0x8002, 0x02)])
    0x00 0x01 0x00 0xFD 0xA4 0x8003 [(0x0300, 0x80)]
    [rd 0x8000, rd 0x8001, rd 0x8002, rd 0x0200, rd 0x0300, wr 0x0300, wr 0x0300] = true := by decide

/-- R190. -/
theorem test_dec_0200 : endsAs
    (start 0x00 0x00 0x00 0xFD 0x24 0x8000 [(0x0200, 0x00), (0x8000, 0xCE), (0x8001, 0x00), (0x8002, 0x02)])
    0x00 0x00 0x00 0xFD 0xA4 0x8003 [(0x0200, 0xFF)]
    [rd 0x8000, rd 0x8001, rd 0x8002, rd 0x0200, wr 0x0200, wr 0x0200] = true := by decide

/-- R191. -/
theorem test_inx : endsAs
    (start 0x00 0xFF 0x00 0xFD 0x24 0x8000 [(0x8000, 0xE8)])
    0x00 0x00 0x00 0xFD 0x26 0x8001 []
    [rd 0x8000, rd 0x8001] = true := by decide

/-- R192. -/
theorem test_iny : endsAs
    (start 0x00 0x00 0x7F 0xFD 0x24 0x8000 [(0x8000, 0xC8)])
    0x00 0x00 0x80 0xFD 0xA4 0x8001 []
    [rd 0x8000, rd 0x8001] = true := by decide

/-- R193. -/
theorem test_dex : endsAs
    (start 0x00 0x00 0x00 0xFD 0x24 0x8000 [(0x8000, 0xCA)])
    0x00 0xFF 0x00 0xFD 0xA4 0x8001 []
    [rd 0x8000, rd 0x8001] = true := by decide

/-- R194. -/
theorem test_dey : endsAs
    (start 0x00 0x00 0x01 0xFD 0x24 0x8000 [(0x8000, 0x88)])
    0x00 0x00 0x00 0xFD 0x26 0x8001 []
    [rd 0x8000, rd 0x8001] = true := by decide

/-- R210. -/
theorem test_asl_a : endsAs
    (start 0x80 0x00 0x00 0xFD 0x24 0x8000 [(0x8000, 0x0A)])
    0x00 0x00 0x00 0xFD 0x27 0x8001 []
    [rd 0x8000, rd 0x8001] = true := by decide

/-- R210. -/
theorem test_asl_10 : endsAs
    (start 0x00 0x00 0x00 0xFD 0x24 0x8000 [(0x0010, 0x41), (0x8000, 0x06), (0x8001, 0x10)])
    0x00 0x00 0x00 0xFD 0xA4 0x8002 [(0x0010, 0x82)]
    [rd 0x8000, rd 0x8001, rd 0x0010, wr 0x0010, wr 0x0010] = true := by decide

/-- R211. -/
theorem test_lsr_a : endsAs
    (start 0x01 0x00 0x00 0xFD 0xA4 0x8000 [(0x8000, 0x4A)])
    0x00 0x00 0x00 0xFD 0x27 0x8001 []
    [rd 0x8000, rd 0x8001] = true := by decide

/-- R211. -/
theorem test_lsr_0200_x : endsAs
    (start 0x00 0x03 0x00 0xFD 0x24 0x8000 [(0x0203, 0xFE), (0x8000, 0x5E), (0x8001, 0x00), (0x8002, 0x02)])
    0x00 0x03 0x00 0xFD 0x24 0x8003 [(0x0203, 0x7F)]
    [rd 0x8000, rd 0x8001, rd 0x8002, rd 0x0203, rd 0x0203, wr 0x0203, wr 0x0203] = true := by decide

/-- R212. -/
theorem test_rol_a : endsAs
    (start 0x80 0x00 0x00 0xFD 0x25 0x8000 [(0x8000, 0x2A)])
    0x01 0x00 0x00 0xFD 0x25 0x8001 []
    [rd 0x8000, rd 0x8001] = true := by decide

/-- R212. -/
theorem test_rol_10 : endsAs
    (start 0x00 0x00 0x00 0xFD 0x24 0x8000 [(0x0010, 0x40), (0x8000, 0x26), (0x8001, 0x10)])
    0x00 0x00 0x00 0xFD 0xA4 0x8002 [(0x0010, 0x80)]
    [rd 0x8000, rd 0x8001, rd 0x0010, wr 0x0010, wr 0x0010] = true := by decide

/-- R213. -/
theorem test_ror_a : endsAs
    (start 0x01 0x00 0x00 0xFD 0x25 0x8000 [(0x8000, 0x6A)])
    0x80 0x00 0x00 0xFD 0xA5 0x8001 []
    [rd 0x8000, rd 0x8001] = true := by decide

/-- R213. -/
theorem test_ror_10_x : endsAs
    (start 0x00 0xF0 0x00 0xFD 0x24 0x8000 [(0x0000, 0x01), (0x8000, 0x76), (0x8001, 0x10)])
    0x00 0xF0 0x00 0xFD 0x27 0x8002 [(0x0000, 0x00)]
    [rd 0x8000, rd 0x8001, rd 0x0010, rd 0x0000, wr 0x0000, wr 0x0000] = true := by decide

/-- R224. -/
theorem test_bne_plus_4_not_taken : endsAs
    (start 0x00 0x00 0x00 0xFD 0x26 0x8000 [(0x8000, 0xD0), (0x8001, 0x04)])
    0x00 0x00 0x00 0xFD 0x26 0x8002 []
    [rd 0x8000, rd 0x8001] = true := by decide

/-- R224. -/
theorem test_bne_plus_4_taken : endsAs
    (start 0x00 0x00 0x00 0xFD 0x24 0x8000 [(0x8000, 0xD0), (0x8001, 0x04)])
    0x00 0x00 0x00 0xFD 0x24 0x8006 []
    [rd 0x8000, rd 0x8001, rd 0x8002] = true := by decide

/-- R223. -/
theorem test_beq_minus_3_taken_to_0x7fff_page_crossed : endsAs
    (start 0x00 0x00 0x00 0xFD 0x26 0x8000 [(0x8000, 0xF0), (0x8001, 0xFD)])
    0x00 0x00 0x00 0xFD 0x26 0x7FFF []
    [rd 0x8000, rd 0x8001, rd 0x8002, rd 0x8002] = true := by decide

/-- R221. -/
theorem test_bcc_plus_127_taken_crosses : endsAs
    (start 0x00 0x00 0x00 0xFD 0x24 0x80F0 [(0x80F0, 0x90), (0x80F1, 0x7F)])
    0x00 0x00 0x00 0xFD 0x24 0x8171 []
    [rd 0x80F0, rd 0x80F1, rd 0x80F2, rd 0x80F2] = true := by decide

/-- R222. -/
theorem test_bcs_plus_2 : endsAs
    (start 0x00 0x00 0x00 0xFD 0x25 0x8000 [(0x8000, 0xB0), (0x8001, 0x02)])
    0x00 0x00 0x00 0xFD 0x25 0x8004 []
    [rd 0x8000, rd 0x8001, rd 0x8002] = true := by decide

/-- R225. -/
theorem test_bmi_minus_128 : endsAs
    (start 0x00 0x00 0x00 0xFD 0xA4 0x8000 [(0x8000, 0x30), (0x8001, 0x80)])
    0x00 0x00 0x00 0xFD 0xA4 0x7F82 []
    [rd 0x8000, rd 0x8001, rd 0x8002, rd 0x8002] = true := by decide

/-- R226. -/
theorem test_bpl_plus_0 : endsAs
    (start 0x00 0x00 0x00 0xFD 0x24 0x8000 [(0x8000, 0x10), (0x8001, 0x00)])
    0x00 0x00 0x00 0xFD 0x24 0x8002 []
    [rd 0x8000, rd 0x8001, rd 0x8002] = true := by decide

/-- R227. -/
theorem test_bvc_plus_2_v_1_not_taken : endsAs
    (start 0x00 0x00 0x00 0xFD 0x64 0x8000 [(0x8000, 0x50), (0x8001, 0x02)])
    0x00 0x00 0x00 0xFD 0x64 0x8002 []
    [rd 0x8000, rd 0x8001] = true := by decide

/-- R228. -/
theorem test_bvs_plus_2 : endsAs
    (start 0x00 0x00 0x00 0xFD 0x64 0x8000 [(0x8000, 0x70), (0x8001, 0x02)])
    0x00 0x00 0x00 0xFD 0x64 0x8004 []
    [rd 0x8000, rd 0x8001, rd 0x8002] = true := by decide

/-- R229. -/
theorem test_jmp_1234 : endsAs
    (start 0x00 0x00 0x00 0xFD 0x24 0x8000 [(0x8000, 0x4C), (0x8001, 0x34), (0x8002, 0x12)])
    0x00 0x00 0x00 0xFD 0x24 0x1234 []
    [rd 0x8000, rd 0x8001, rd 0x8002] = true := by decide

/-- R230. -/
theorem test_jmp_02ff : endsAs
    (start 0x00 0x00 0x00 0xFD 0x24 0x8000 [(0x0200, 0x12), (0x02FF, 0x34), (0x0300, 0x56), (0x8000, 0x6C), (0x8001, 0xFF), (0x8002, 0x02)])
    0x00 0x00 0x00 0xFD 0x24 0x1234 []
    [rd 0x8000, rd 0x8001, rd 0x8002, rd 0x02FF, rd 0x0200] = true := by decide

/-- R230. -/
theorem test_jmp_0200 : endsAs
    (start 0x00 0x00 0x00 0xFD 0x24 0x8000 [(0x0200, 0x78), (0x0201, 0x56), (0x8000, 0x6C), (0x8001, 0x00), (0x8002, 0x02)])
    0x00 0x00 0x00 0xFD 0x24 0x5678 []
    [rd 0x8000, rd 0x8001, rd 0x8002, rd 0x0200, rd 0x0201] = true := by decide

/-- R231. -/
theorem test_jsr_9000 : endsAs
    (start 0x00 0x00 0x00 0xFD 0x24 0x8000 [(0x8000, 0x20), (0x8001, 0x00), (0x8002, 0x90)])
    0x00 0x00 0x00 0xFB 0x24 0x9000 [(0x01FD, 0x80), (0x01FC, 0x02)]
    [rd 0x8000, rd 0x8001, rd 0x8002, rd 0x01FD, wr 0x01FD, wr 0x01FC] = true := by decide

/-- R232. -/
theorem test_rts : endsAs
    (start 0x00 0x00 0x00 0xFB 0x24 0x8000 [(0x01FC, 0x02), (0x01FD, 0x80), (0x8000, 0x60)])
    0x00 0x00 0x00 0xFD 0x24 0x8003 []
    [rd 0x8000, rd 0x8001, rd 0x01FB, rd 0x01FC, rd 0x01FD, rd 0x8003] = true := by decide

/-- R232. -/
theorem test_rts_sp_ff_wraps : endsAs
    (start 0x00 0x00 0x00 0xFF 0x24 0x8000 [(0x0100, 0xFF), (0x0101, 0xFF), (0x8000, 0x60)])
    0x00 0x00 0x00 0x01 0x24 0x0000 []
    [rd 0x8000, rd 0x8001, rd 0x01FF, rd 0x0100, rd 0x0101, rd 0x0000] = true := by decide

/-- R240. -/
theorem test_pha : endsAs
    (start 0x42 0x00 0x00 0xFD 0x24 0x8000 [(0x8000, 0x48)])
    0x42 0x00 0x00 0xFC 0x24 0x8001 [(0x01FD, 0x42)]
    [rd 0x8000, rd 0x8001, wr 0x01FD] = true := by decide

/-- R240. -/
theorem test_pha_sp_00 : endsAs
    (start 0x42 0x00 0x00 0x00 0x24 0x8000 [(0x8000, 0x48)])
    0x42 0x00 0x00 0xFF 0x24 0x8001 [(0x0100, 0x42)]
    [rd 0x8000, rd 0x8001, wr 0x0100] = true := by decide

/-- R241. -/
theorem test_php : endsAs
    (start 0x00 0x00 0x00 0xFD 0xE5 0x8000 [(0x8000, 0x08)])
    0x00 0x00 0x00 0xFC 0xE5 0x8001 [(0x01FD, 0xF5)]
    [rd 0x8000, rd 0x8001, wr 0x01FD] = true := by decide

/-- R242. -/
theorem test_pla : endsAs
    (start 0x00 0x00 0x00 0xFC 0x24 0x8000 [(0x01FD, 0x00), (0x8000, 0x68)])
    0x00 0x00 0x00 0xFD 0x26 0x8001 []
    [rd 0x8000, rd 0x8001, rd 0x01FC, rd 0x01FD] = true := by decide

/-- R243. -/
theorem test_plp : endsAs
    (start 0x00 0x00 0x00 0xFC 0x24 0x8000 [(0x01FD, 0xFF), (0x8000, 0x28)])
    0x00 0x00 0x00 0xFD 0xEF 0x8001 []
    [rd 0x8000, rd 0x8001, rd 0x01FC, rd 0x01FD] = true := by decide

/-- R243. -/
theorem test_plp_b : endsAs
    (start 0x00 0x00 0x00 0xFC 0xE7 0x8000 [(0x01FD, 0x00), (0x8000, 0x28)])
    0x00 0x00 0x00 0xFD 0x20 0x8001 []
    [rd 0x8000, rd 0x8001, rd 0x01FC, rd 0x01FD] = true := by decide

/-- R244. -/
theorem test_clc : endsAs
    (start 0x00 0x00 0x00 0xFD 0x25 0x8000 [(0x8000, 0x18)])
    0x00 0x00 0x00 0xFD 0x24 0x8001 []
    [rd 0x8000, rd 0x8001] = true := by decide

/-- R245. -/
theorem test_sec : endsAs
    (start 0x00 0x00 0x00 0xFD 0x24 0x8000 [(0x8000, 0x38)])
    0x00 0x00 0x00 0xFD 0x25 0x8001 []
    [rd 0x8000, rd 0x8001] = true := by decide

/-- R246. -/
theorem test_cli : endsAs
    (start 0x00 0x00 0x00 0xFD 0x24 0x8000 [(0x8000, 0x58)])
    0x00 0x00 0x00 0xFD 0x20 0x8001 []
    [rd 0x8000, rd 0x8001] = true := by decide

/-- R247. -/
theorem test_sei : endsAs
    (start 0x00 0x00 0x00 0xFD 0x20 0x8000 [(0x8000, 0x78)])
    0x00 0x00 0x00 0xFD 0x24 0x8001 []
    [rd 0x8000, rd 0x8001] = true := by decide

/-- R248. -/
theorem test_cld : endsAs
    (start 0x00 0x00 0x00 0xFD 0x2C 0x8000 [(0x8000, 0xD8)])
    0x00 0x00 0x00 0xFD 0x24 0x8001 []
    [rd 0x8000, rd 0x8001] = true := by decide

/-- R249. -/
theorem test_sed : endsAs
    (start 0x00 0x00 0x00 0xFD 0x24 0x8000 [(0x8000, 0xF8)])
    0x00 0x00 0x00 0xFD 0x2C 0x8001 []
    [rd 0x8000, rd 0x8001] = true := by decide

/-- R250. -/
theorem test_clv : endsAs
    (start 0x00 0x00 0x00 0xFD 0x64 0x8000 [(0x8000, 0xB8)])
    0x00 0x00 0x00 0xFD 0x24 0x8001 []
    [rd 0x8000, rd 0x8001] = true := by decide

/-- R251. -/
theorem test_nop : endsAs
    (start 0x00 0x00 0x00 0xFD 0x24 0x8000 [(0x8000, 0xEA)])
    0x00 0x00 0x00 0xFD 0x24 0x8001 []
    [rd 0x8000, rd 0x8001] = true := by decide

/-- R252. -/
theorem test_brk : endsAs
    (start 0x00 0x00 0x00 0xFD 0x20 0x8000 [(0x8000, 0x00), (0x8001, 0xEA), (0xFFFE, 0x00), (0xFFFF, 0x90)])
    0x00 0x00 0x00 0xFA 0x24 0x9000 [(0x01FD, 0x80), (0x01FC, 0x02), (0x01FB, 0x30)]
    [rd 0x8000, rd 0x8001, wr 0x01FD, wr 0x01FC, wr 0x01FB, rd 0xFFFE, rd 0xFFFF] = true := by decide

/-- R252. -/
theorem test_brk_p_ef : endsAs
    (start 0x00 0x00 0x00 0xFD 0xEF 0x8000 [(0x8000, 0x00), (0x8001, 0xEA), (0xFFFE, 0x00), (0xFFFF, 0x90)])
    0x00 0x00 0x00 0xFA 0xEF 0x9000 [(0x01FD, 0x80), (0x01FC, 0x02), (0x01FB, 0xFF)]
    [rd 0x8000, rd 0x8001, wr 0x01FD, wr 0x01FC, wr 0x01FB, rd 0xFFFE, rd 0xFFFF] = true := by decide

/-- R253. -/
theorem test_rti : endsAs
    (start 0x00 0x00 0x00 0xFA 0x24 0x8000 [(0x01FB, 0xFF), (0x01FC, 0x02), (0x01FD, 0x80), (0x8000, 0x40)])
    0x00 0x00 0x00 0xFD 0xEF 0x8002 []
    [rd 0x8000, rd 0x8001, rd 0x01FA, rd 0x01FB, rd 0x01FC, rd 0x01FD] = true := by decide

/-- R271. -/
theorem test_slo_10 : endsAs
    (start 0x01 0x00 0x00 0xFD 0x24 0x8000 [(0x0010, 0x81), (0x8000, 0x07), (0x8001, 0x10)])
    0x03 0x00 0x00 0xFD 0x25 0x8002 [(0x0010, 0x02)]
    [rd 0x8000, rd 0x8001, rd 0x0010, wr 0x0010, wr 0x0010] = true := by decide

/-- R271. -/
theorem test_slo_20_y : endsAs
    (start 0x00 0x00 0x01 0xFD 0x24 0x8000 [(0x0020, 0xFF), (0x0021, 0x02), (0x0300, 0x40), (0x8000, 0x13), (0x8001, 0x20)])
    0x80 0x00 0x01 0xFD 0xA4 0x8002 [(0x0300, 0x80)]
    [rd 0x8000, rd 0x8001, rd 0x0020, rd 0x0021, rd 0x0200, rd 0x0300, wr 0x0300, wr 0x0300] = true := by decide

/-- R272. -/
theorem test_rla_10 : endsAs
    (start 0xFF 0x00 0x00 0xFD 0x25 0x8000 [(0x0010, 0x80), (0x8000, 0x27), (0x8001, 0x10)])
    0x01 0x00 0x00 0xFD 0x25 0x8002 [(0x0010, 0x01)]
    [rd 0x8000, rd 0x8001, rd 0x0010, wr 0x0010, wr 0x0010] = true := by decide

/-- R273. -/
theorem test_sre_10 : endsAs
    (start 0xFF 0x00 0x00 0xFD 0x24 0x8000 [(0x0010, 0x03), (0x8000, 0x47), (0x8001, 0x10)])
    0xFE 0x00 0x00 0xFD 0xA5 0x8002 [(0x0010, 0x01)]
    [rd 0x8000, rd 0x8001, rd 0x0010, wr 0x0010, wr 0x0010] = true := by decide

/-- R274. -/
theorem test_rra_10 : endsAs
    (start 0x10 0x00 0x00 0xFD 0x25 0x8000 [(0x0010, 0x02), (0x8000, 0x67), (0x8001, 0x10)])
    0x91 0x00 0x00 0xFD 0xA4 0x8002 [(0x0010, 0x81)]
    [rd 0x8000, rd 0x8001, rd 0x0010, wr 0x0010, wr 0x0010] = true := by decide

/-- R275. -/
theorem test_dcp_10 : endsAs
    (start 0x40 0x00 0x00 0xFD 0x24 0x8000 [(0x0010, 0x41), (0x8000, 0xC7), (0x8001, 0x10)])
    0x40 0x00 0x00 0xFD 0x27 0x8002 [(0x0010, 0x40)]
    [rd 0x8000, rd 0x8001, rd 0x0010, wr 0x0010, wr 0x0010] = true := by decide

/-- R276. -/
theorem test_isb_10 : endsAs
    (start 0x50 0x00 0x00 0xFD 0x25 0x8000 [(0x0010, 0x0F), (0x8000, 0xE7), (0x8001, 0x10)])
    0x40 0x00 0x00 0xFD 0x25 0x8002 [(0x0010, 0x10)]
    [rd 0x8000, rd 0x8001, rd 0x0010, wr 0x0010, wr 0x0010] = true := by decide

/-- R277. -/
theorem test_lax_10 : endsAs
    (start 0x00 0x00 0x00 0xFD 0x24 0x8000 [(0x0010, 0x80), (0x8000, 0xA7), (0x8001, 0x10)])
    0x80 0x80 0x00 0xFD 0xA4 0x8002 []
    [rd 0x8000, rd 0x8001, rd 0x0010] = true := by decide

/-- R278. -/
theorem test_lax_imm_0f_lxa_magic_ff : endsAs
    (start 0x00 0x00 0x00 0xFD 0x24 0x8000 [(0x8000, 0xAB), (0x8001, 0x0F)])
    0x0F 0x0F 0x00 0xFD 0x24 0x8002 []
    [rd 0x8000, rd 0x8001] = true := by decide

/-- R279. -/
theorem test_sax_10 : endsAs
    (start 0xF0 0x3C 0x00 0xFD 0x24 0x8000 [(0x8000, 0x87), (0x8001, 0x10)])
    0xF0 0x3C 0x00 0xFD 0x24 0x8002 [(0x0010, 0x30)]
    [rd 0x8000, rd 0x8001, wr 0x0010] = true := by decide

/-- R280. -/
theorem test_anc_imm_80 : endsAs
    (start 0xFF 0x00 0x00 0xFD 0x24 0x8000 [(0x8000, 0x0B), (0x8001, 0x80)])
    0x80 0x00 0x00 0xFD 0xA5 0x8002 []
    [rd 0x8000, rd 0x8001] = true := by decide

/-- R281. -/
theorem test_alr_imm_03 : endsAs
    (start 0xFF 0x00 0x00 0xFD 0x24 0x8000 [(0x8000, 0x4B), (0x8001, 0x03)])
    0x01 0x00 0x00 0xFD 0x25 0x8002 []
    [rd 0x8000, rd 0x8001] = true := by decide

/-- R282. -/
theorem test_arr_imm_ff : endsAs
    (start 0xC0 0x00 0x00 0xFD 0x25 0x8000 [(0x8000, 0x6B), (0x8001, 0xFF)])
    0xE0 0x00 0x00 0xFD 0xA5 0x8002 []
    [rd 0x8000, rd 0x8001] = true := by decide

/-- R282. -/
theorem test_arr_imm_ff_b : endsAs
    (start 0x40 0x00 0x00 0xFD 0x24 0x8000 [(0x8000, 0x6B), (0x8001, 0xFF)])
    0x20 0x00 0x00 0xFD 0x64 0x8002 []
    [rd 0x8000, rd 0x8001] = true := by decide

/-- R283. -/
theorem test_axs_imm_02 : endsAs
    (start 0xFF 0x05 0x00 0xFD 0x24 0x8000 [(0x8000, 0xCB), (0x8001, 0x02)])
    0xFF 0x03 0x00 0xFD 0x25 0x8002 []
    [rd 0x8000, rd 0x8001] = true := by decide

/-- R283. -/
theorem test_axs_imm_06 : endsAs
    (start 0xFF 0x05 0x00 0xFD 0x25 0x8000 [(0x8000, 0xCB), (0x8001, 0x06)])
    0xFF 0xFF 0x00 0xFD 0xA4 0x8002 []
    [rd 0x8000, rd 0x8001] = true := by decide

/-- R284. -/
theorem test_xaa_imm_0f_xaa_magic_ff : endsAs
    (start 0x00 0x3C 0x00 0xFD 0x24 0x8000 [(0x8000, 0x8B), (0x8001, 0x0F)])
    0x0C 0x3C 0x00 0xFD 0x24 0x8002 []
    [rd 0x8000, rd 0x8001] = true := by decide

/-- R285. -/
theorem test_las_0200_y : endsAs
    (start 0x00 0x00 0x00 0xF0 0x24 0x8000 [(0x0200, 0x3C), (0x8000, 0xBB), (0x8001, 0x00), (0x8002, 0x02)])
    0x30 0x30 0x00 0x30 0x24 0x8003 []
    [rd 0x8000, rd 0x8001, rd 0x8002, rd 0x0200] = true := by decide

/-- R287. -/
theorem test_ahx_0200_y : endsAs
    (start 0xFF 0xFF 0x10 0xFD 0x24 0x8000 [(0x8000, 0x9F), (0x8001, 0x00), (0x8002, 0x02)])
    0xFF 0xFF 0x10 0xFD 0x24 0x8003 [(0x0210, 0x03)]
    [rd 0x8000, rd 0x8001, rd 0x8002, rd 0x0210, wr 0x0210] = true := by decide

/-- R287. -/
theorem test_ahx_02f0_y_crosses : endsAs
    (start 0xFF 0xFF 0x20 0xFD 0x24 0x8000 [(0x8000, 0x9F), (0x8001, 0xF0), (0x8002, 0x02)])
    0xFF 0xFF 0x20 0xFD 0x24 0x8003 [(0x0310, 0x03)]
    [rd 0x8000, rd 0x8001, rd 0x8002, rd 0x0210, wr 0x0310] = true := by decide

/-- R288. -/
theorem test_tas_0200_y : endsAs
    (start 0xF7 0x3F 0x01 0xFD 0x24 0x8000 [(0x8000, 0x9B), (0x8001, 0x00), (0x8002, 0x02)])
    0xF7 0x3F 0x01 0x37 0x24 0x8003 [(0x0201, 0x03)]
    [rd 0x8000, rd 0x8001, rd 0x8002, rd 0x0201, wr 0x0201] = true := by decide

/-- R289. -/
theorem test_shx_0200_y : endsAs
    (start 0x00 0xFF 0x01 0xFD 0x24 0x8000 [(0x8000, 0x9E), (0x8001, 0x00), (0x8002, 0x02)])
    0x00 0xFF 0x01 0xFD 0x24 0x8003 [(0x0201, 0x03)]
    [rd 0x8000, rd 0x8001, rd 0x8002, rd 0x0201, wr 0x0201] = true := by decide

/-- R290. -/
theorem test_shy_0200_x : endsAs
    (start 0x00 0x01 0xFF 0xFD 0x24 0x8000 [(0x8000, 0x9C), (0x8001, 0x00), (0x8002, 0x02)])
    0x00 0x01 0xFF 0xFD 0x24 0x8003 [(0x0201, 0x03)]
    [rd 0x8000, rd 0x8001, rd 0x8002, rd 0x0201, wr 0x0201] = true := by decide

/-- R291. -/
theorem test_nop_0x1a : endsAs
    (start 0x00 0x00 0x00 0xFD 0x24 0x8000 [(0x8000, 0x1A)])
    0x00 0x00 0x00 0xFD 0x24 0x8001 []
    [rd 0x8000, rd 0x8001] = true := by decide

/-- R292. -/
theorem test_nop_imm_55_0x80 : endsAs
    (start 0x00 0x00 0x00 0xFD 0x24 0x8000 [(0x8000, 0x80), (0x8001, 0x55)])
    0x00 0x00 0x00 0xFD 0x24 0x8002 []
    [rd 0x8000, rd 0x8001] = true := by decide

/-- R293. -/
theorem test_nop_10_0x04 : endsAs
    (start 0x00 0x00 0x00 0xFD 0x24 0x8000 [(0x8000, 0x04), (0x8001, 0x10)])
    0x00 0x00 0x00 0xFD 0x24 0x8002 []
    [rd 0x8000, rd 0x8001, rd 0x0010] = true := by decide

/-- R294. -/
theorem test_nop_10_x_0x14 : endsAs
    (start 0x00 0x01 0x00 0xFD 0x24 0x8000 [(0x8000, 0x14), (0x8001, 0x10)])
    0x00 0x01 0x00 0xFD 0x24 0x8002 []
    [rd 0x8000, rd 0x8001, rd 0x0010, rd 0x0011] = true := by decide

/-- R295. -/
theorem test_nop_2002_0x0c : endsAs
    (start 0x00 0x00 0x00 0xFD 0x24 0x8000 [(0x8000, 0x0C), (0x8001, 0x02), (0x8002, 0x20)])
    0x00 0x00 0x00 0xFD 0x24 0x8003 []
    [rd 0x8000, rd 0x8001, rd 0x8002, rd 0x2002] = true := by decide

/-- R296. -/
theorem test_nop_20ff_x_0x1c : endsAs
    (start 0x00 0x03 0x00 0xFD 0x24 0x8000 [(0x8000, 0x1C), (0x8001, 0xFF), (0x8002, 0x20)])
    0x00 0x03 0x00 0xFD 0x24 0x8003 []
    [rd 0x8000, rd 0x8001, rd 0x8002, rd 0x2002, rd 0x2102] = true := by decide

/-- R297. -/
theorem test_sbc_imm_01_0xeb : endsAs
    (start 0x00 0x00 0x00 0xFD 0x25 0x8000 [(0x8000, 0xEB), (0x8001, 0x01)])
    0xFF 0x00 0x00 0xFD 0xA4 0x8002 []
    [rd 0x8000, rd 0x8001] = true := by decide

/-- R299. -/
theorem test_xxx_0x02 : endsAs
    (start 0x00 0x00 0x00 0xFD 0x24 0x8000 [(0x8000, 0x02)])
    0x00 0x00 0x00 0xFD 0x24 0x8001 []
    [rd 0x8000, rd 0x8001] = true := by decide


/-! ### Interrupts, reset, DMA: 95_test_vectors.md section 3, and the devices -/

/-- A cycle in which the environment does nothing. -/
def quiet : BusInput :=
  { data := none, irqLines := .none, ppu := none, dmcReq := none, windows := none }

/-- A cycle whose end finds the mapper's IRQ asserted. -/
def irqNow : BusInput := { quiet with irqLines := { IrqMask.none with mapper := true } }

/-- The PPU with its NMI line high. -/
def nmiPort : PpuPort := { ppuPowerOn with vblank := true, nmiEnabled := true }

/-- The vectors of section 3.1: NMI to 0xA000, IRQ to 0x9000. -/
def vectors : List (Nat × Byte) :=
  [(0xFFFA, 0x00), (0xFFFB, 0xA0), (0xFFFE, 0x00), (0xFFFF, 0x90)]

/-- A program, more bytes and the coming cycles; the list's last lines hold on. -/
def timed (sp p : Byte) (pc : Word) (cells : List (Nat × Byte)) (inputs : List BusInput) : State :=
  let s := start 0 0 0 sp p pc (cells ++ vectors)
  { s with bus := { s.bus with inputs := inputs } }

/-- One step takes `n` cycles and ends with this PC, SP and P, and these bytes stored. -/
def stepsTo (s : State) (n : Nat) (pc : Word) (sp p : Byte) (stored : List (Nat × Byte)) : Bool :=
  match step s with
  | .next t =>
    decide (t.bus.cycle = s.bus.cycle + n) && decide (t.pc = pc) && decide (t.sp = sp) &&
    decide (t.p.toByte = p) && stored.all (fun c => Memory.read? t.bus.mem c.1 == some c.2)
  | .fault _ => false
  | .refused _ => false

/-- I1: a CLI takes no interrupt although an IRQ is asserted. -/
theorem test_i1_cli : stepsTo (timed 0xFD 0x24 0x8000 [(0x8000, 0x58)] [irqNow, irqNow])
    2 0x8001 0xFD 0x20 [] = true := by decide

/-- I2: the IRQ is taken right after the SEI, with I set in the pushed byte. -/
theorem test_i2_sei : stepsTo (timed 0xFD 0x20 0x8000 [(0x8000, 0x78)] [irqNow])
    9 0x9000 0xFA 0x24 [(0x1FD, 0x80), (0x1FC, 0x01), (0x1FB, 0x24)] = true := by decide

/-- I3: a PLP that clears I takes no interrupt. -/
theorem test_i3_plp : stepsTo
    (timed 0xFC 0x24 0x8000 [(0x1FD, 0x00), (0x8000, 0x28)] [irqNow]) 4 0x8001 0xFD 0x20 [] = true := by
  decide

/-- I4: an RTI that clears I does. -/
theorem test_i4_rti : stepsTo
    (timed 0xFA 0x24 0x8000 [(0x1FB, 0x00), (0x1FC, 0x00), (0x1FD, 0x85), (0x8000, 0x40)] [irqNow])
    13 0x9000 0xFA 0x24 [(0x1FD, 0x85), (0x1FC, 0x00), (0x1FB, 0x20)] = true := by decide

/-- I5: an NMI visible at the end of the third of four cycles is taken after the instruction. -/
theorem test_i5_nmi : stepsTo
    (timed 0xFD 0x24 0x8000 [(0x200, 0x00), (0x8000, 0xAD), (0x8001, 0x00), (0x8002, 0x02)]
      [quiet, quiet, { quiet with ppu := some nmiPort }])
    11 0xA000 0xFA 0x26 [(0x1FD, 0x80), (0x1FC, 0x03), (0x1FB, 0x26)] = true := by decide

/-- I6: one visible at the end of the last cycle waits. -/
theorem test_i6_nmi_late : stepsTo
    (timed 0xFD 0x24 0x8000 [(0x200, 0x00), (0x8000, 0xAD), (0x8001, 0x00), (0x8002, 0x02)]
      [quiet, quiet, quiet, { quiet with ppu := some nmiPort }]) 4 0x8003 0xFD 0x26 [] = true := by
  decide

/-- I9 and I10: the taken branch sees an IRQ of its first cycle, and not one of its second. -/
theorem test_i9_branch : stepsTo
    (timed 0xFD 0x20 0x8000 [(0x8000, 0xD0), (0x8001, 0x02)] [irqNow])
    10 0x9000 0xFA 0x24 [(0x1FD, 0x80), (0x1FC, 0x04), (0x1FB, 0x20)] = true := by decide

theorem test_i10_branch_quirk : stepsTo
    (timed 0xFD 0x20 0x8000 [(0x8000, 0xD0), (0x8001, 0x02)] [quiet, irqNow])
    3 0x8004 0xFD 0x20 [] = true := by decide

/-- I12: a page crossing takes the quirk away. -/
theorem test_i12_branch_crossing : stepsTo
    (timed 0xFD 0x20 0x80F0 [(0x80F0, 0xD0), (0x80F1, 0x10)] [quiet, irqNow])
    11 0x9000 0xFA 0x24 [(0x1FD, 0x81), (0x1FC, 0x02), (0x1FB, 0x20)] = true := by decide

/-- I13: an NMI that comes in the sequence's third cycle takes the vector of an IRQ's entry. -/
theorem test_i13_hijack : stepsTo
    (timed 0xFD 0x20 0x8000 [(0x8000, 0xEA)]
      [irqNow, irqNow, irqNow, irqNow, { irqNow with ppu := some nmiPort }])
    9 0xA000 0xFA 0x24 [(0x1FD, 0x80), (0x1FC, 0x01), (0x1FB, 0x20)] = true := by decide

/-- I15: an NMI takes a BRK's vector; B stays set in the pushed byte. -/
theorem test_i15_brk_hijack : stepsTo
    (timed 0xFD 0x24 0x8000 [(0x8000, 0x00), (0x8001, 0xEA)] [quiet, { quiet with ppu := some nmiPort }])
    7 0xA000 0xFA 0x24 [(0x1FD, 0x80), (0x1FC, 0x02), (0x1FB, 0x34)] = true := by decide

/-- X3 and X4: a soft reset. -/
theorem test_x3_soft_reset :
    stepsTo { timed 0xF0 0xE1 0x1234 [(0xFFFC, 0x00), (0xFFFD, 0x80)] [] with resetReq := some .soft }
      0 0x8000 0xED 0xE5 [] = true := by decide

theorem test_x4_soft_reset_wraps :
    stepsTo { timed 0x01 0xE1 0x1234 [(0xFFFC, 0x00), (0xFFFD, 0x80)] [] with resetReq := some .soft }
      0 0x8000 0xFE 0xE5 [] = true := by decide

/-- X1 and X5: a hard reset. -/
theorem test_x1_hard_reset :
    stepsTo { timed 0x01 0xE1 0x1234 [(0xFFFC, 0x00), (0xFFFD, 0x80)] [] with
              resetReq := some .hard, corrupted := true }
      0 0x8000 0xFD 0x24 [] = true := by decide

/-- M3: a DMC request in cycle 9 costs four cycles. -/
theorem test_m3_dmc : endsAs
    (timed 0xFD 0x24 0x8000 [(0x300, 0x01), (0x8000, 0xAD), (0x8001, 0x00), (0x8002, 0x03)]
      [quiet, { quiet with dmcReq := some 0xC000 }])
    0x01 0 0 0xFD 0x24 0x8003 []
    [rd 0x8000, rd 0x8001, rd 0x8002, rd 0x8002, rd 0x8002, rd 0xC000, rd 0x8002, rd 0x0300] = true := by
  decide

/-- The VBlank flag is bit 7 of what the PPU drives, and a read of 0x2002 clears it (60_exceptions.md
R346). -/
theorem test_status_read :
    (match step (timed 0xFD 0x24 0x8000 [(0x8000, 0xAD), (0x8001, 0x02), (0x8002, 0x20)]
        [quiet, quiet, quiet, { quiet with data := some 0x80, ppu := some { nmiPort with nmiEnabled := false } }]) with
      | .next t => decide (t.a = 0x80) && !t.bus.ppu.vblank
      | .fault _ => false
      | .refused _ => false) = true := by decide

/-- A window without write access drops the write (20_memory.md R83). -/
theorem test_read_only_window :
    (match step
        (let s := start 0x42 0 0 0xFD 0x24 0x0200
          [(0x200, 0x8D), (0x201, 0x00), (0x202, 0x80), (0x8000, 0x11)]
         { s with bus := { s.bus with windows := [{ first := 0x8000, last := 0xFFFF, access := .read }] } }) with
      | .next t => Memory.read? t.bus.mem 0x8000 == some 0x11
      | .fault _ => false
      | .refused _ => false) = true := by decide

/-- Internal RAM repeats every 0x800 bytes (20_memory.md R63). -/
theorem test_ram_mirror : endsAs
    (start 0x42 0 0 0xFD 0x24 0x8000 [(0x8000, 0x8D), (0x8001, 0x01), (0x8002, 0x18)])
    0x42 0 0 0xFD 0x24 0x8003 [(0x0001, 0x42)] [rd 0x8000, rd 0x8001, rd 0x8002, wr 0x1801] = true := by
  decide

/-- A jam opcode sets `corrupted`; the next step is refused, or runs, as STEP_WHEN_CORRUPTED says
(60_exceptions.md R329). -/
theorem test_jam :
    (match step (start 0 0 0 0xFD 0x24 0x8000 [(0x8000, 0x02), (0x8001, 0xEA)]) with
      | .next t =>
        t.corrupted && (match step t with
          | .next _ => false
          | .fault r => decide (r = .jammed)
          | .refused _ => false) &&
        stepsTo { t with params := { t.params with stepWhenCorrupted := .continue } } 2 0x8002 0xFD 0x24 []
      | .fault _ => false
      | .refused _ => false) = true := by decide

/-- An instruction placed for the next step is the one that runs. -/
theorem test_with_fetch_word : endsAs (State.reset.withFetchWord 16 0x80A9)
    0x80 0 0 0xFD 0xA4 0x8002 [] [rd 0x8000, rd 0x8001] = true := by decide

/-! ## The obligations' hypotheses can be met

One theorem for each obligation that has hypotheses, by its name. -/

theorem witness_DecodeEncode : (Instr.jmpInd 0xFFFF#16).WellFormed = true := by decide

theorem witness_EncodeDecode : decode [0x6C#8, 0xFF#8, 0xFF#8] = .ok (.jmpInd 0xFFFF#16, []) := by
  decide

theorem witness_StepRunsDecoded : State.reset.resetReq = none ∧ State.reset.jammed = false := by
  decide

/-- An instruction whose three bytes lie at 0xFFFE, 0xFFFF and 0x0000: it ends cartridge space and goes
on in internal RAM. -/
theorem witness_FetchReadsMemory :
    BytesAt (start 0 0 0 0xFD 0x24 0xFFFE [(0x0000, 0x12), (0xFFFE, 0xAD), (0xFFFF, 0x34)]) 0xFFFE
      (encode (.ldaAbs 0x1234#16)) :=
  ⟨.inr ⟨by decide, by unfold CartPlain; decide, by decide⟩, by decide,
   .inr ⟨by decide, by unfold CartPlain; decide, by decide⟩, by decide, .inl (by decide), by decide, trivial⟩

/-- A jammed state, and one that is not. -/
theorem witness_StopsOnlyWhenJammed :
    (∃ s : State, s.resetReq = none ∧ s.corrupted = true ∧ s.params.stepWhenCorrupted = .refuse) ∧
    ∃ s : State, ¬ (s.resetReq = none ∧ s.corrupted = true ∧ s.params.stepWhenCorrupted = .refuse) :=
  ⟨⟨{ State.reset with corrupted := true }, by decide⟩, ⟨State.reset, by decide⟩⟩

theorem witness_LoadResults :
    (Instr.ldaIdy 0xFF#8).entry.operation = .LDA ∧ (Instr.ldxZpy 0xFF#8).entry.operation = .LDX ∧
    (Instr.ldyImm 0x00#8).entry.operation = .LDY ∧
    ((Instr.laxZp0 0x10#8).entry.operation = .LAX ∧ (Instr.laxZp0 0x10#8).entry.mode ≠ .IMM) := by
  decide

theorem witness_StoreResults :
    (Instr.staAbx 0xFFFF#16).entry.operation = .STA ∧ (Instr.stxZpy 0x10#8).entry.operation = .STX ∧
    (Instr.styAbs 0x2000#16).entry.operation = .STY ∧ (Instr.saxZp0 0x10#8).entry.operation = .SAX := by
  decide

theorem witness_UnstableStoreResults :
    (Instr.ahxAby 0x02F0#16).entry.operation = .AHX ∧ (Instr.tasAby 0x0200#16).entry.operation = .TAS ∧
    (Instr.shxAby 0x0200#16).entry.operation = .SHX ∧ (Instr.shyAbx 0x0200#16).entry.operation = .SHY := by
  decide

theorem witness_AddSubResults :
    (Instr.adcImm 0xFF#8).entry.operation = .ADC ∧ (Instr.sbcImm_EB 0xFF#8).entry.operation = .SBC := by
  decide

theorem witness_LogicResults :
    (Instr.andImm 0#8).entry.operation = .AND ∧ (Instr.oraZp0 0#8).entry.operation = .ORA ∧
    (Instr.eorAbs 0#16).entry.operation = .EOR ∧ (Instr.bitZp0 0#8).entry.operation = .BIT := by
  decide

theorem witness_CompareResults :
    (Instr.cmpImm 0#8).entry.operation = .CMP ∧ (Instr.cpxZp0 0#8).entry.operation = .CPX ∧
    (Instr.cpyAbs 0#16).entry.operation = .CPY := by decide

theorem witness_IncDecMemory :
    (Instr.incAbx 0#16).entry.operation = .INC ∧ (Instr.decZp0 0#8).entry.operation = .DEC := by decide

/-- Each of the four shifts, in accumulator form and in memory. -/
theorem witness_ShiftResults :
    (Instr.aslAcc.entry.operation = .ASL ∧ Instr.aslAcc.entry.mode = .ACC) ∧
    (Instr.lsrAcc.entry.operation = .LSR ∧ Instr.lsrAcc.entry.mode = .ACC) ∧
    ((Instr.rolZp0 0#8).entry.operation = .ROL ∧ (Instr.rolZp0 0#8).entry.mode ≠ .ACC) ∧
    ((Instr.rorAbx 0#16).entry.operation = .ROR ∧ (Instr.rorAbx 0#16).entry.mode ≠ .ACC) := by decide

theorem witness_CombinedRmwResults :
    (Instr.sloIdx 0#8).entry.operation = .SLO ∧ (Instr.rlaZp0 0#8).entry.operation = .RLA ∧
    (Instr.sreAbs 0#16).entry.operation = .SRE ∧ (Instr.rraAbx 0#16).entry.operation = .RRA ∧
    (Instr.dcpAby 0#16).entry.operation = .DCP ∧ (Instr.isbIdy 0#8).entry.operation = .ISB := by decide

theorem witness_CombinedImmediateResults :
    (Instr.ancImm_2B 0#8).entry.operation = .ANC ∧ (Instr.alrImm 0#8).entry.operation = .ALR ∧
    (Instr.arrImm 0#8).entry.operation = .ARR ∧ (Instr.axsImm 0#8).entry.operation = .AXS := by decide

theorem witness_UnstableRegisterResults :
    (Instr.xaaImm 0#8).entry.operation = .XAA ∧
    ((Instr.laxImm 0#8).entry.operation = .LAX ∧ (Instr.laxImm 0#8).entry.mode = .IMM) ∧
    (Instr.lasAby 0#16).entry.operation = .LAS := by decide

theorem witness_NopResults :
    (Instr.nop.entry.operation = .NOP ∧ Instr.nop.entry.mode = .IMP) ∧
    ((Instr.nopAbx_FC 0#16).entry.operation = .NOP ∧ (Instr.nopAbx_FC 0#16).entry.mode ≠ .IMP) := by
  decide

theorem witness_JamResult : Instr.xxx_F2.entry.operation = .XXX := by decide

/-- A branch taken across a page, and one not taken. -/
theorem witness_BranchResults :
    ((Instr.bcc 0x80#8).entry.kind = .branch ∧
      branchTaken (Instr.bcc 0x80#8).entry.operation State.reset.p = true) ∧
    ((Instr.bcs 0x7F#8).entry.kind = .branch ∧
      branchTaken (Instr.bcs 0x7F#8).entry.operation State.reset.p = false) := by decide

/-- The NMI latch set; and the line at rest with a PPU that does nothing. -/
theorem witness_NmiTakenOnce :
    ∃ s : State, s.bus.nmi = true ∧ s.bus.nmiLinePrev = s.bus.nmiLine ∧
      ∀ inp ∈ s.bus.inputs, inp.ppu = none :=
  ⟨{ State.reset with bus := { Bus.reset with nmi := true } }, by decide, by decide,
    by intro inp h; cases h⟩

theorem witness_CliDefersIrq :
    let s := start 0 0 0 0xFD 0x24 0x0000 [(0x0000, 0x58)]
    s.resetReq = none ∧ s.jammed = false ∧ BytesAt s s.pc [0x58#8] ∧ s.p.i = true ∧ NmiQuiet s :=
  ⟨by decide, by decide, ⟨.inl (by decide), by decide, trivial⟩, by decide, by decide, by decide,
    by intro inp h; cases h⟩

theorem witness_SeiStillTakesIrq :
    let s := timed 0xFD 0x20 0x8000 [(0x8000, 0x78)] [irqNow]
    let t := { s with bus := { s.bus with irqLines := irqNow.irqLines } }
    t.resetReq = none ∧ t.jammed = false ∧ BytesAt t t.pc [0x78#8] ∧ t.p.i = false ∧ NmiQuiet t ∧
      IrqHeld t :=
  ⟨by decide, by decide, ⟨.inr ⟨by decide, by unfold CartPlain; decide, by decide⟩, by decide, trivial⟩,
    by decide, by unfold NmiQuiet; decide, by unfold IrqHeld; decide⟩

/-- PLP with I set; RTI about to pull I clear while an IRQ is held. -/
theorem witness_PullLatency :
    State.reset.p.i = true ∧
    let s := start 0 0 0 0xFA 0x24 0x8000 [(0x1FB, 0x00)]
    let t := { s with bus := { s.bus with irqLines := irqNow.irqLines } }
    (t.ram (stackAddr (t.sp + 1))).getLsbD 2 = false ∧ IrqHeld t :=
  ⟨by decide, by decide, by unfold IrqHeld; decide⟩

theorem witness_BranchQuirk :
    (Instr.beq 0x80#8).entry.kind = .branch ∧ NoDma State.reset :=
  ⟨by decide, by unfold NoDma; decide⟩

/-- The last address of internal RAM, and its lowest mirror. -/
theorem witness_RamReadAfterWrite : (0x1FFF#16).toNat < 0x2000 ∧ (0x07FF#16).toNat < 0x2000 ∧
    0x1FFF#16 &&& 0x07FF#16 = 0x07FF#16 &&& 0x07FF#16 := by decide

/-- The first and last address of cartridge space, in a window of each kind of access. -/
theorem witness_CartridgeWindows :
    0x4020 ≤ (0x4020#16).toNat ∧ 0x4020 ≤ (0xFFFF#16).toNat ∧ Bus.reset.inputs = [] ∧
    windowAccess [{ first := 0x8000, last := 0xFFFF, access := .read }] 0x4020 = .none ∧
    windowAccess [{ first := 0x8000, last := 0xFFFF, access := .read }] 0xFFFF = .read ∧
    windowAccess Bus.reset.windows 0x4020 = .readWrite := by decide

/-- The first and the last mirror of 0x2002 and 0x2007, each with a byte driven in the cycle: at the last
buffered PPU address and at the first palette address. -/
theorem witness_PpuPortReads :
    ((0x2000 ≤ (0x2002#16).toNat ∧ (0x2002#16).toNat < 0x4000 ∧ (0x2002#16).toNat % 8 = 2) ∧
     (0x2000 ≤ (0x3FFF#16).toNat ∧ (0x3FFF#16).toNat < 0x4000 ∧ (0x3FFF#16).toNat % 8 = 7)) ∧
    let b := { Bus.reset with inputs := [{ quiet with data := some 0x42 }] }
    let low := { b with ppu := { ppuPowerOn with vramAddr := 0x3EFF } }
    let palette := { b with ppu := { ppuPowerOn with vramAddr := 0x3F00 } }
    ((beginCycle low).dataIn = some 0x42 ∧ (beginCycle low).ppu.vramAddr.toNat < 0x3F00) ∧
    ((beginCycle palette).dataIn = some 0x42 ∧
      0x3F00 ≤ (beginCycle palette).ppu.vramAddr.toNat) := by
  decide

theorem witness_OamDmaRequest : 0x4013#16 ≠ 0x4014#16 ∧ 0x2000 ≤ (0x2000#16).toNat ∧
    (0x401F#16).toNat < 0x4020 := by decide

/-- A request in an even cycle and one in an odd cycle, of a page of internal RAM. -/
theorem witness_OamDmaCopies :
    let b := { Bus.reset with oamDma := true, oamDmaPage := 0x1F }
    (b.oamDma = true ∧ b.dmcDma = false ∧ b.cycle % 2 = 1 ∧ b.oamDmaPage.toNat < 0x20 ∧
      ∀ inp ∈ b.inputs, inp.dmcReq = none) ∧
    { b with cycle := 8 }.cycle % 2 ≠ 1 := by decide

/-- A DMC request at a cycle's catch-up; and a DMC DMA that owes its dummy cycle, in an odd cycle and in
an even one, at both ends of cartridge space, with the environment plain. -/
theorem witness_DmcDmaReads :
    (∃ (b : Bus) (inp : BusInput) (rest : List BusInput),
      b.inputs = inp :: rest ∧ inp.dmcReq = some 0xC000#16) ∧
    let b := { Bus.reset with dmcDma := true, halt := true, dummyRead := true, dmcDmaAddr := 0x4020,
                              inputs := [quiet] }
    (b.dmcDma = true ∧ b.dummyRead = true ∧ b.oamDma = false ∧
      (∀ inp ∈ b.inputs, inp.dmcReq = none) ∧ b.cycle % 2 ≠ 0 ∧ { b with cycle := 8 }.cycle % 2 = 0) ∧
    (0x4020 ≤ b.dmcDmaAddr.toNat ∧ 0x4020 ≤ (0xFFFF#16).toNat ∧
      (∀ inp ∈ b.inputs, inp.data = none ∧ inp.windows = none) ∧
      windowAccess b.windows b.dmcDmaAddr.toNat ≠ .none ∧
      windowAccess b.windows (0xFFFF#16).toNat ≠ .none) :=
  ⟨⟨{ Bus.reset with inputs := [{ quiet with dmcReq := some 0xC000#16 }] }, _, _, rfl, rfl⟩, by decide⟩

/-- A reset with an NMI pending and the PPU's line low, in a plain cartridge, with inputs to come. -/
theorem witness_HardReset :
    let s := { State.reset with resetReq := some ResetKind.hard,
                                bus := { Bus.reset with nmi := true, inputs := [quiet] } }
    s.resetReq = some .hard ∧ (∀ inp ∈ s.bus.inputs, inp.dmcReq = none) ∧
    s.bus.nmiLine = false ∧ (∀ inp ∈ s.bus.inputs, inp.ppu = none) ∧
    windowAccess s.bus.windows 0xFFFC ≠ .none ∧ windowAccess s.bus.windows 0xFFFD ≠ .none := by decide

theorem witness_SoftReset :
    let s := { State.reset with resetReq := some ResetKind.soft,
                                bus := { Bus.reset with nmi := true, inputs := [quiet] } }
    s.resetReq = some .soft ∧ (∀ inp ∈ s.bus.inputs, inp.dmcReq = none) ∧
    s.bus.nmiLine = false ∧ (∀ inp ∈ s.bus.inputs, inp.ppu = none) ∧
    windowAccess s.bus.windows 0xFFFC ≠ .none ∧ windowAccess s.bus.windows 0xFFFD ≠ .none := by decide

theorem witness_BusCycles : NoDma State.reset := by unfold NoDma; decide

/-- A reset state that runs a NOP, after which no DMA is pending. -/
theorem witness_StepCycles :
    let s := start 0 0 0 0xFD 0x24 0x8000 [(0x8000, 0xEA)]
    s.resetReq = none ∧ s.jammed = false ∧ NoDma s ∧
    (match exec (fetchInstr s).1 (fetchInstr s).2 with
      | .next t => !t.bus.dmaPending
      | .fault _ => false
      | .refused _ => false) = true :=
  ⟨by decide, by decide, by unfold NoDma; decide, by decide⟩

/-- A state with memory, an IRQ and the latches in use that meets the invariant and takes a step. -/
theorem witness_StepKeepsInv :
    let s := timed 0xFD 0x20 0x8000 [(0x10, 0x42), (0x8000, 0xE6), (0x8001, 0x10)] []
    let t := { s with bus := { s.bus with irqLines := irqNow.irqLines, irq := irqNow.irqLines, runIrq := true } }
    StateInv t ∧ stepsTo t 12 0x9000 0xFA 0x24 [(0x10, 0x43)] = true :=
  ⟨by unfold StateInv; decide, by decide⟩

/-- A step that takes a reset, and one that runs a jam opcode. -/
theorem witness_CorruptedIsSticky :
    (∃ s t : State, step s = .next t ∧ s.resetReq ≠ none) ∧
    ∃ s t : State, step s = .next t ∧ s.resetReq = none ∧
      (fetchInstr s).1.entry.operation = .XXX :=
  ⟨⟨{ State.reset with resetReq := some .soft }, _, rfl, by decide⟩,
    ⟨start 0 0 0 0xFD 0x24 0x8000 [(0x8000, 0x02)], _, rfl, by decide, by decide⟩⟩

theorem witness_FlagWriters :
    let o := (Instr.staAbs 0#16).entry.operation
    o ∉ [.ADC, .SBC, .CMP, .CPX, .CPY, .ASL, .LSR, .ROL, .ROR, .CLC, .SEC, .PLP, .RTI, .SLO, .RLA, .SRE,
      .RRA, .DCP, .ISB, .ANC, .ALR, .ARR, .AXS] ∧
    o ∉ [.SEI, .CLI, .PLP, .RTI, .BRK] ∧ o ∉ [.SED, .CLD, .PLP, .RTI] ∧
    o ∉ [.ADC, .SBC, .BIT, .CLV, .PLP, .RTI, .RRA, .ISB, .ARR] ∧
    o ∈ [.STA, .STX, .STY, .SAX, .AHX, .TAS, .SHX, .SHY, .TXS, .PHA, .PHP, .JMP, .JSR, .RTS, .BRK, .BCC,
      .BCS, .BEQ, .BNE, .BMI, .BPL, .BVC, .BVS, .CLC, .SEC, .CLI, .SEI, .CLD, .SED, .CLV, .NOP, .XXX] := by
  decide

theorem witness_RegisterWriters :
    let e := (Instr.cmpImm 0#8).entry
    (e.operation ∉ [.LDA, .PLA, .TXA, .TYA, .ADC, .SBC, .AND, .ORA, .EOR, .SLO, .RLA, .SRE, .RRA, .ISB,
      .LAX, .ANC, .ALR, .ARR, .XAA, .LAS] ∧ e.kind ≠ .acc) ∧
    e.operation ∉ [.LDX, .TAX, .TSX, .INX, .DEX, .LAX, .AXS, .LAS] ∧
    e.operation ∉ [.LDY, .TAY, .INY, .DEY] ∧
    e.operation ∉ [.TXS, .PHA, .PHP, .PLA, .PLP, .JSR, .RTS, .RTI, .BRK, .TAS, .LAS] ∧
    (e.kind ∉ [.branch, .jump, .brk] ∧ e.operation ∉ [.RTS, .RTI]) ∧
    (e.kind ∉ [.store, .rmw, .brk] ∧ e.operation ∉ [.JSR, .PHA, .PHP]) := by decide

theorem witness_DecimalFlagIgnored :
    (Instr.adcImm 0x09#8).entry.operation ∉ [.PHP, .BRK, .CLD, .SED, .PLP, .RTI] := by decide
end

/-! SUPPORT. Proofs of the statements of 10_state.md: the status byte, the fetch, the stack, what each
instruction writes, and that D changes no result. -/

namespace Sys2Proof.Machine

/-! ## The status byte (10_state.md R22, R27, R28, R31, R48) -/

/-- Each bit of the status byte: the six flags at their places, B reads 0, U reads 1. -/
theorem toByte_bits (p : Flags) :
    p.toByte.getLsbD 0 = p.c ∧ p.toByte.getLsbD 1 = p.z ∧ p.toByte.getLsbD 2 = p.i ∧
    p.toByte.getLsbD 3 = p.d ∧ p.toByte.getLsbD 4 = false ∧ p.toByte.getLsbD 5 = true ∧
    p.toByte.getLsbD 6 = p.v ∧ p.toByte.getLsbD 7 = p.n := by
  obtain ⟨c, z, i, d, v, n⟩ := p
  revert c z i d v n
  decide

/-- A pull looks at the six flag bits only. -/
theorem ofByte_or_0x30 (b : Byte) : Flags.ofByte (b ||| 0x30#8) = Flags.ofByte b := by
  simp [Flags.ofByte]

@[simp] theorem ofByte_toByte (p : Flags) : Flags.ofByte p.toByte = p := by
  obtain ⟨hc, hz, hi, hd, -, -, hv, hn⟩ := toByte_bits p
  simp only [Flags.ofByte, hc, hz, hi, hd, hv, hn]

/-- The byte PHP and BRK push is pulled back as the flags it was made from. -/
@[simp] theorem ofByte_pushByte_true (p : Flags) : Flags.ofByte (p.pushByte true) = p := by
  rw [pushByte_true, ofByte_or_0x30, ofByte_toByte]

theorem toByte_ofByte (b : Byte) : (Flags.ofByte b).toByte = (b &&& 0xCF#8) ||| 0x20#8 := by
  revert b
  decide

end Sys2Proof.Machine

namespace Sys2Proof

open Machine

/-- Settles O12: Z is the test for zero by definition, and bit 7 is the test with 0x80. -/
theorem setZn : Obligations.SetZn := by
  intro v p
  rw [and_0x80_ne_zero, BitVec.msb_eq_getLsbD_last]
  simp only [Flags.setZn, beq_eq_decide]

/-- Settles O13: the bits of the byte, and the two ways round. -/
theorem statusByte : Obligations.StatusByte := fun p b =>
  ⟨toByte_bits p, toByte_ofByte b, ofByte_toByte p, ofByte_pushByte_true p⟩

/-- Settles O15: the source's formula is how the model computes V; `adc_overflow` makes it signed
overflow, and SBC is ADC of the complement. -/
theorem overflowFormula : Obligations.OverflowFormula := by
  intro a v p
  refine ⟨rfl, adc_overflow a v p.c, rfl, ?_, ?_⟩
  · rw [sbcFlags_eq]
    rfl
  · rw [sbcFlags_eq, subSpec_eq, adcFlags_eq]

/-- Settles O6: what `fetchInstr_spec` says of the fetch, whose bus run writes no memory. -/
theorem fetchReadsMemory : Obligations.FetchReadsMemory := by
  intro s i h
  obtain ⟨b, hf, hb⟩ := fetchInstr_spec s i h
  rw [hf]
  exact ⟨rfl, _, b, rfl, hb.mem_eq dmaWrites_memKey⟩

end Sys2Proof

namespace Sys2Proof.Machine

/-! ## What every step does to the parameters, the reset request and `corrupted` -/

theorem applyReset_keep (k : ResetKind) (s : State) :
    (applyReset k s).params = s.params ∧ (applyReset k s).resetReq = none ∧
    (applyReset k s).corrupted = false := by
  cases k <;> exact ⟨rfl, rfl, rfl⟩

end Sys2Proof.Machine

namespace Sys2Proof

open Machine

/-- Settles O56, by the two cases of a step: a reset clears `corrupted`; else the fetch and the
instruction-end check keep it, and `exec` sets it exactly for a jam opcode. -/
theorem corruptedIsSticky : Obligations.CorruptedIsSticky := by
  intro s t h
  obtain ⟨k, hk, rfl⟩ | ⟨hr, -, u, hu, rfl⟩ := step_cases h
  · obtain ⟨hp, hq, hc⟩ := applyReset_keep k s
    exact ⟨hp, hq, fun h0 => by simp [hk] at h0, fun _ => hc⟩
  · obtain ⟨hfp, hfr, hfc, -⟩ := ran_fetchInstr s
    obtain ⟨u', hu', hep, her, hec, -⟩ := exec_ran (fetchInstr s).1 (fetchInstr s).2
    obtain rfl : u = u' := by simpa [hu] using hu'
    obtain ⟨hip, hir, hic, -⟩ := ran_instructionEnd u
    refine ⟨hip.trans (hep.trans hfp), hir.trans (her.trans (hfr.trans hr)), fun _ => ?_,
      fun h0 => absurd hr h0⟩
    rw [hic, hec, hfc]

end Sys2Proof

namespace Sys2Proof.Machine

/-! ## Stack instructions (45_stack_flags_system.md R240 to R243, 44_branch_jump.md R231, R232) -/

/-- The write of a push, after a run that writes no memory. -/
theorem pushed_one {s t : State} {b : Bus} {i : Bool} {v : Byte} (h : BusRun DmaWrites s.bus b)
    (ht : t.bus = b.writeCycle i (stackAddr s.sp) v) : Pushed s t [v] := by
  intro k
  rw [ht, push_mem, h.mem_eq dmaWrites_memKey, ← pushedByte_set _ _ _ _ (by simp)]
  rfl

/-- The two writes of a 16-bit push, after a run that writes no memory. -/
theorem pushed_two {s t : State} {b : Bus} {i : Bool} {v w : Byte} (h : BusRun DmaWrites s.bus b)
    (ht : t.bus =
      (b.writeCycle i (stackAddr s.sp) v).writeCycle i (stackAddr (s.sp - 1)) w) :
    Pushed s t [v, w] := by
  intro k
  rw [ht, push_mem, push_mem, h.mem_eq dmaWrites_memKey, ← pushedByte_set _ _ _ _ (by simp),
    ← pushedByte_set _ _ _ _ (by simp)]
  rfl

/-- The byte pushed first lies at the old stack pointer. -/
theorem Pushed.ram_first {s t : State} {v : Byte} {vs : List Byte} (h : Pushed s t (v :: vs)) :
    t.ram (stackAddr s.sp) = v := by
  rw [ram_stackAddr, h, pushedByte, if_pos rfl]

/-- The byte pushed second lies one below it. -/
theorem Pushed.ram_second {s t : State} {v w : Byte} {vs : List Byte}
    (h : Pushed s t (v :: w :: vs)) : t.ram (stackAddr (s.sp - 1)) = w := by
  have hne : stackKey (s.sp - 1) ≠ stackKey s.sp := fun hk => by
    have := stackKey_inj hk
    bv_omega
  rw [ram_stackAddr, h, pushedByte, if_neg hne, pushedByte, if_pos rfl]

theorem exec_pha (s : State) : PushesThen .pha s [s.a] { s with sp := s.sp - 1 } :=
  ⟨_, rfl, pushed_one (read_run s.p.i s.pc s.bus) rfl, rfl⟩

theorem exec_php (s : State) :
    PushesThen .php s [s.p.pushByte true] { s with sp := s.sp - 1 } :=
  ⟨_, rfl, pushed_one (read_run s.p.i s.pc s.bus) rfl, rfl⟩

theorem exec_jsr (addr : Word) (s : State) :
    PushesThen (.jsr addr) s [hi (s.pc - 1), lo (s.pc - 1)]
      { s with sp := s.sp - 2, pc := addr } := by
  have hsp : s.sp - 2 = s.sp - 1 - 1 := by bv_omega
  rw [hsp]
  exact ⟨_, rfl, pushed_two (read_run s.p.i (stackAddr s.sp) s.bus) rfl, rfl⟩

/-- The state in which an instruction that pulls begins to pull: memory is as it was. -/
theorem dummyStackRead_modeImp_ram (s : State) (a : Word) :
    (dummyStackRead (modeImp s)).ram a = s.ram a :=
  ram_congr ((read_mem _ _ _).trans (read_mem _ _ _)) a

/-- The pull of PLA and PLP, after their two dummy reads. -/
theorem pull_implied_spec (s : State) :
    ∃ l b, pull (dummyStackRead (modeImp s)) =
        (s.ram (stackAddr (s.sp + 1)), { s with sp := s.sp + 1, latches := l, bus := b }) ∧
      b.mem = s.bus.mem := by
  refine ⟨_, _, (pull_eq _).trans (Prod.ext (dummyStackRead_modeImp_ram s _) rfl), ?_⟩
  exact ((read_mem _ _ _).trans (read_mem _ _ _)).trans (read_mem _ _ _)

theorem exec_pla (s : State) :
    RunsTo .pla s { s with sp := s.sp + 1, a := s.ram (stackAddr (s.sp + 1)),
                           p := znSpec (s.ram (stackAddr (s.sp + 1))) s.p } := by
  obtain ⟨l, b, hpull, hm⟩ := pull_implied_spec s
  refine ⟨plaOp (modeImp s), rfl, by rw [plaOp, hpull]; exact hm, ?_⟩
  rw [plaOp, hpull, ← setZn_eq]
  rfl

theorem exec_plp (s : State) :
    RunsTo .plp s { s with sp := s.sp + 1, p := Flags.ofByte (s.ram (stackAddr (s.sp + 1))) } := by
  obtain ⟨l, b, hpull, hm⟩ := pull_implied_spec s
  refine ⟨plpOp (modeImp s), rfl, by rw [plpOp, hpull]; exact hm, ?_⟩
  rw [plpOp, hpull]
  rfl

theorem exec_rts (s : State) :
    RunsTo .rts s
      { s with sp := s.sp + 2,
               pc := mk16 (s.ram (stackAddr (s.sp + 2))) (s.ram (stackAddr (s.sp + 1))) + 1 } := by
  obtain ⟨b, hpull, hb⟩ := pull16_spec (dummyStackRead (modeImp s))
  have hsp : s.sp + 2 = s.sp + 1 + 1 := by bv_omega
  rw [hsp, ← dummyStackRead_modeImp_ram s, ← dummyStackRead_modeImp_ram s]
  refine ⟨rtsOp (modeImp s), rfl, ?_, ?_⟩
  · rw [rtsOp, hpull]
    exact ((read_mem _ _ _).trans (hb.mem_eq dmaWrites_memKey)).trans
      ((read_mem _ _ _).trans (read_mem _ _ _))
  · rw [rtsOp, hpull]
    rfl

/-- Where a pull finds the one byte an instruction pushed. -/
theorem PushesThen.pull_one {i : Instr} {s : State} {v : Byte}
    (h : PushesThen i s [v] { s with sp := s.sp - 1 }) :
    ∃ t, exec i s = .next t ∧ t.sp + 1 = s.sp ∧ t.ram (stackAddr (t.sp + 1)) = v := by
  obtain ⟨t, ht, hpush, hreg⟩ := h
  have hsp : t.sp + 1 = s.sp := by
    have : t.sp = s.sp - 1 := by rw [hreg]
    bv_omega
  exact ⟨t, ht, hsp, by rw [hsp, hpush.ram_first]⟩

/-- Where two pulls find the two bytes an instruction pushed: the last one first. -/
theorem PushesThen.pull_two {i : Instr} {s : State} {v w : Byte} {pc : Word}
    (h : PushesThen i s [v, w] { s with sp := s.sp - 2, pc := pc }) :
    ∃ t, exec i s = .next t ∧ t.sp + 2 = s.sp ∧ t.ram (stackAddr (t.sp + 1)) = w ∧
      t.ram (stackAddr (t.sp + 2)) = v := by
  obtain ⟨t, ht, hpush, hreg⟩ := h
  have hsp : t.sp = s.sp - 2 := by rw [hreg]
  have h1 : t.sp + 1 = s.sp - 1 := by bv_omega
  have h2 : t.sp + 2 = s.sp := by bv_omega
  exact ⟨t, ht, h2, by rw [h1, hpush.ram_second], by rw [h2, hpush.ram_first]⟩

end Sys2Proof.Machine

namespace Sys2Proof

open Machine

/-- Settles O31: whatever is put in the registers in between, the pulls read the bytes that the pushes
left, because `SP` and memory are as the pushes left them. -/
theorem stackRoundTrips : Obligations.StackRoundTrips := by
  intro s addr pc' a x y p
  refine ⟨?_, ?_, ?_⟩
  · obtain ⟨t, ht, hsp, hv⟩ := (exec_pha s).pull_one
    obtain ⟨u, hu, -, hr⟩ := exec_pla { t with a := a, x := x, y := y, p := p, pc := pc' }
    exact ⟨t, u, ht, hu, by rw [hr]; exact hv, by rw [hr]; exact hsp⟩
  · obtain ⟨t, ht, hsp, hv⟩ := (exec_php s).pull_one
    obtain ⟨u, hu, -, hr⟩ := exec_plp { t with a := a, x := x, y := y, p := p, pc := pc' }
    refine ⟨t, u, ht, hu, ?_, by rw [hr]; exact hsp⟩
    rw [hr]
    exact (congrArg Flags.ofByte hv).trans (ofByte_pushByte_true s.p)
  · obtain ⟨t, ht, hsp, hlo, hhi⟩ := (exec_jsr addr s).pull_two
    obtain ⟨u, hu, -, hr⟩ := exec_rts { t with a := a, x := x, y := y, p := p, pc := pc' }
    have hpc : u.pc = mk16 (t.ram (stackAddr (t.sp + 2))) (t.ram (stackAddr (t.sp + 1))) + 1 := by
      rw [hr]
      rfl
    refine ⟨t, u, ht, hu, ?_, by rw [hr]; exact hsp, by rw [hr], by rw [hr], by rw [hr],
      by rw [hr]⟩
    rw [hpc, hhi, hlo, mk16_hi_lo]
    bv_omega

end Sys2Proof

namespace Sys2Proof.Machine

/-! ## Which instruction writes what (10_state.md R23 to R30, R47) -/

/-- The operations that write A, the accumulator forms of the shifts apart. -/
def aWriters : List Operation :=
  [.LDA, .PLA, .TXA, .TYA, .ADC, .SBC, .AND, .ORA, .EOR, .SLO, .RLA, .SRE, .RRA, .ISB, .LAX, .ANC,
    .ALR, .ARR, .XAA, .LAS]

/-- The operations that write X. -/
def xWriters : List Operation := [.LDX, .TAX, .TSX, .INX, .DEX, .LAX, .AXS, .LAS]

/-- The operations that write Y. -/
def yWriters : List Operation := [.LDY, .TAY, .INY, .DEY]

/-- The operations that write SP. -/
def spWriters : List Operation :=
  [.TXS, .PHA, .PHP, .PLA, .PLP, .JSR, .RTS, .RTI, .BRK, .TAS, .LAS]

/-- The operations that write C. -/
def cWriters : List Operation :=
  [.ADC, .SBC, .CMP, .CPX, .CPY, .ASL, .LSR, .ROL, .ROR, .CLC, .SEC, .PLP, .RTI, .SLO, .RLA, .SRE,
    .RRA, .DCP, .ISB, .ANC, .ALR, .ARR, .AXS]

/-- The operations that write I. -/
def iWriters : List Operation := [.SEI, .CLI, .PLP, .RTI, .BRK]

/-- The operations that write D. -/
def dWriters : List Operation := [.SED, .CLD, .PLP, .RTI]

/-- The operations that write V. -/
def vWriters : List Operation := [.ADC, .SBC, .BIT, .CLV, .PLP, .RTI, .RRA, .ISB, .ARR]

/-- The operations that leave Z and N. -/
def znKeepers : List Operation :=
  [.STA, .STX, .STY, .SAX, .AHX, .TAS, .SHX, .SHY, .TXS, .PHA, .PHP, .JMP, .JSR, .RTS, .BRK, .BCC,
    .BCS, .BEQ, .BNE, .BMI, .BPL, .BVC, .BVS, .CLC, .SEC, .CLI, .SEI, .CLD, .SED, .CLV, .NOP, .XXX]

/-- `t` differs from `s` only in what an operation `o` of kind `k` may write. -/
structure WritesOnly (o : Operation) (k : Kind) (s t : State) : Prop where
  a : o ∉ aWriters → k ≠ .acc → t.a = s.a
  x : o ∉ xWriters → t.x = s.x
  y : o ∉ yWriters → t.y = s.y
  sp : o ∉ spWriters → t.sp = s.sp
  pc : k ∉ [.branch, .jump, .brk] → o ∉ [.RTS, .RTI] → t.pc = s.pc
  mem : k ∉ [.store, .rmw, .brk] → o ∉ [.JSR, .PHA, .PHP] → t.bus.mem = s.bus.mem
  c : o ∉ cWriters → t.p.c = s.p.c
  i : o ∉ iWriters → t.p.i = s.p.i
  d : o ∉ dWriters → t.p.d = s.p.d
  v : o ∉ vWriters → t.p.v = s.p.v
  zn : o ∈ znKeepers → t.p.z = s.p.z ∧ t.p.n = s.p.n

theorem WritesOnly.trans {o : Operation} {k : Kind} {s t u : State} (h : WritesOnly o k s t)
    (h' : WritesOnly o k t u) : WritesOnly o k s u where
  a ho hk := (h'.a ho hk).trans (h.a ho hk)
  x ho := (h'.x ho).trans (h.x ho)
  y ho := (h'.y ho).trans (h.y ho)
  sp ho := (h'.sp ho).trans (h.sp ho)
  pc hk ho := (h'.pc hk ho).trans (h.pc hk ho)
  mem hk ho := (h'.mem hk ho).trans (h.mem hk ho)
  c ho := (h'.c ho).trans (h.c ho)
  i ho := (h'.i ho).trans (h.i ho)
  d ho := (h'.d ho).trans (h.d ho)
  v ho := (h'.v ho).trans (h.v ho)
  zn ho := ⟨(h'.zn ho).1.trans (h.zn ho).1, (h'.zn ho).2.trans (h.zn ho).2⟩

/-- Bus cycles and latches that leave memory write nothing. -/
theorem writesOnly_bus (o : Operation) (k : Kind) (s : State) (l : Latches) {b : Bus}
    (h : b.mem = s.bus.mem) : WritesOnly o k s { s with latches := l, bus := b } :=
  ⟨fun _ _ => rfl, fun _ => rfl, fun _ => rfl, fun _ => rfl, fun _ _ => rfl, fun _ _ => h,
    fun _ => rfl, fun _ => rfl, fun _ => rfl, fun _ => rfl, fun _ => ⟨rfl, rfl⟩⟩

/-! In each of the lemmas below a branch is one operation: its routine names the fields it writes, and
the operation stands in the list of each of them. -/

theorem writesOnly_readEffect (e : Entry) (k : Kind) (v : Byte) (s : State) :
    WritesOnly e.operation k s (readEffect e v s) := by
  unfold readEffect
  generalize e.operation = o
  split
  case h_20 => -- the NOPs
    exact writesOnly_bus _ _ s s.latches rfl
  case h_13 => -- LAX, immediate and not
    split <;> constructor <;> simp [aWriters, xWriters, znKeepers, lxaEffect, laxEffect]
  all_goals
    constructor <;>
    simp [aWriters, xWriters, yWriters, spWriters, cWriters, vWriters, znKeepers,
      ldaEffect, ldxEffect, ldyEffect, adcEffect, sbcEffect, andEffect, oraEffect, eorEffect,
      bitEffect, cmpEffect, cpxEffect, cpyEffect, ancEffect, Flags.anc, alrEffect, withZn, arrEffect,
      arrBits, axsEffect, xaaEffect, lasEffect]

/-- What a store-kind operation may write besides memory is SP, and only TAS does. -/
theorem writesOnly_storeRun (o : Operation) (s : State) : WritesOnly o .store s (storeRun o s) := by
  unfold storeRun
  split
  case h_6 => -- TAS
    constructor <;> simp [tasOp, unstableStore, spWriters]
  all_goals constructor <;> simp [storeOp, ahxOp, shxOp, shyOp, unstableStore]

/-- The operations that modify their operand, in memory or in A. -/
def modifiers : List Operation :=
  [.ASL, .LSR, .ROL, .ROR, .INC, .DEC, .SLO, .RLA, .SRE, .RRA, .DCP, .ISB]

theorem mem_modifiers {o : Operation} {m : AddrMode} (h : kindOf o m = .rmw ∨ kindOf o m = .acc) :
    o ∈ modifiers := by
  revert h
  cases o <;> simp [kindOf, modifiers]
  case NOP => split <;> simp

theorem writesOnly_modifyFn {o : Operation} (k : Kind) (h : o ∈ modifiers) (v : Byte) (s : State) :
    WritesOnly o k s (modifyFn o v s).2 := by
  simp only [modifiers, List.mem_cons, List.not_mem_nil, or_false] at h
  rcases h with rfl | rfl | rfl | rfl | rfl | rfl | rfl | rfl | rfl | rfl | rfl | rfl <;>
    constructor <;>
    simp [modifyFn, aWriters, cWriters, vWriters, znKeepers, aslFn, lsrFn, rolFn, rorFn, shiftFn,
      withZn, incFn, decFn, sloFn, rlaFn, sreFn, rraFn, dcpFn, isbFn]

theorem writesOnly_impliedRun (o : Operation) (s : State) :
    WritesOnly o .implied s (impliedRun o s) := by
  unfold impliedRun
  split
  case h_11 => -- RTS
    constructor <;> simp [rtsOp, pull16, pull, dummyStackRead, spWriters]
  case h_12 => -- RTI
    constructor <;>
    simp [rtiOp, returnFromException, pull16, pull, dummyStackRead, spWriters, cWriters, iWriters,
      dWriters, vWriters, znKeepers]
  case h_25 => -- NOP
    exact writesOnly_bus _ _ s s.latches rfl
  all_goals
    constructor <;>
    simp [aWriters, xWriters, yWriters, spWriters, cWriters, iWriters, dWriters, vWriters, znKeepers,
      taxOp, tayOp, txaOp, tyaOp, tsxOp, txsOp, inxOp, inyOp, dexOp, deyOp, phaOp, phpOp, plaOp, plpOp,
      push, pull, dummyStackRead, clcOp, secOp, cliOp, seiOp, cldOp, sedOp, clvOp, xxxOp]

theorem writesOnly_branch (o : Operation) (s : State) :
    WritesOnly o .branch s (branch (branchTaken o) s) := by
  obtain ⟨b, h, hb⟩ := branch_spec (branchTaken o) s
  rw [h]
  have hm := hb.mem_eq dmaWrites_memKey
  constructor <;> simp [hm]

theorem writesOnly_jmpOp (o : Operation) (s : State) : WritesOnly o .jump s (jmpOp s) := by
  constructor <;> simp [jmpOp]

theorem writesOnly_jsrOp (s : State) : WritesOnly .JSR .jump s (jsrOp s) := by
  constructor <;> simp [jsrOp, push16, push, dummyStackRead, spWriters]

theorem writesOnly_brkOp (s : State) : WritesOnly .BRK .brk s (brkOp s) := by
  unfold brkOp
  rw [takeException_eq]
  constructor <;> simp [spWriters, iWriters]

theorem writesOnly_rmwOp {o : Operation} (h : o ∈ modifiers) (s : State) :
    WritesOnly o .rmw s (rmwOp (modifyFn o) s) := by
  have hw : ∀ a v (s : State), WritesOnly o .rmw s (memWrite a v s) := fun a v s => by
    constructor <;> simp
  exact (((writesOnly_bus o .rmw s s.latches (read_mem _ _ _)).trans (hw _ _ _)).trans
    (writesOnly_modifyFn .rmw h _ _)).trans (hw _ _ _)

theorem writesOnly_accOp {o : Operation} (h : o ∈ modifiers) (s : State) :
    WritesOnly o .acc s (accOp (modifyFn o) s) := by
  have hw : ∀ v (s : State), WritesOnly o .acc s (s.setA v) := fun v s => by
    constructor <;> simp
  exact (writesOnly_modifyFn .acc h s.a s).trans (hw _ _)

/-- The one operation of its kind. -/
theorem entry_brk (i : Instr) (h : i.entry.kind = .brk) : i.entry.operation = .BRK := by
  have : ∀ b : Byte, (table b).kind = .brk → (table b).operation = .BRK := by decide
  exact this i.opcode h

/-- What an instruction's operation may write, by the kind of its table entry. -/
theorem writesOnly_opRun (i : Instr) (s : State) :
    WritesOnly i.entry.operation i.entry.kind s (opRun i.entry s) := by
  have hkind := entry_kind i
  cases hk : i.entry.kind <;> rw [hk] at hkind <;> simp only [opRun, hk]
  case read =>
    split
    · exact writesOnly_readEffect i.entry .read _ s
    · exact (writesOnly_bus _ .read s _ (read_mem _ _ _)).trans
        (writesOnly_readEffect i.entry .read _ _)
  case store => exact writesOnly_storeRun _ s
  case rmw => exact writesOnly_rmwOp (mem_modifiers (.inl hkind.symm)) s
  case acc => exact writesOnly_accOp (mem_modifiers (.inr hkind.symm)) s
  case implied => exact writesOnly_impliedRun _ s
  case branch => exact writesOnly_branch _ s
  case jump =>
    split
    case isTrue h => rw [h]; exact writesOnly_jsrOp s
    case isFalse => exact writesOnly_jmpOp _ s
  case brk =>
    rw [entry_brk i hk]
    exact writesOnly_brkOp s

/-- What an instruction writes: its mode routine writes nothing, its operation what it may. -/
theorem exec_writesOnly (i : Instr) (s : State) :
    ∃ t, exec i s = .next t ∧ WritesOnly i.entry.operation i.entry.kind s t := by
  obtain ⟨l, b, hrun, hb, -, -⟩ := modeRun_spec i s
  refine ⟨_, exec_table i s, ?_⟩
  rw [hrun]
  exact (writesOnly_bus _ _ s l (hb.mem_eq dmaWrites_memKey)).trans (writesOnly_opRun i _)

end Sys2Proof.Machine

namespace Sys2Proof

open Machine

/-- Settles O57: the flag clauses of `exec_writesOnly`. -/
theorem flagWriters : Obligations.FlagWriters := by
  intro i s
  obtain ⟨t, ht, h⟩ := exec_writesOnly i s
  exact ⟨t, ht, h.c, h.i, h.d, h.v, h.zn⟩

/-- Settles O58: the register and memory clauses of `exec_writesOnly`. -/
theorem registerWriters : Obligations.RegisterWriters := by
  intro i s
  obtain ⟨t, ht, h⟩ := exec_writesOnly i s
  exact ⟨t, ht, h.a, h.x, h.y, h.sp, h.pc, h.mem⟩

end Sys2Proof

namespace Sys2Proof.Machine

/-! ## There is no decimal mode (10_state.md R26, 42_alu.md R195) -/

/-- The operations that push D or load it. -/
def dUsers : List Operation := [.PHP, .BRK, .CLD, .SED, .PLP, .RTI]

/-- The state with the D flag put to `d`. -/
def State.withD (d : Bool) (s : State) : State := s.setP { s.p with d := d }

section WithD
variable (d : Bool) (s : State)

@[simp] theorem State.withD_a : (s.withD d).a = s.a := rfl
@[simp] theorem State.withD_pc : (s.withD d).pc = s.pc := rfl
@[simp] theorem State.withD_latches : (s.withD d).latches = s.latches := rfl
@[simp] theorem State.withD_setA (v : Byte) : (s.withD d).setA v = (s.setA v).withD d := rfl
@[simp] theorem State.withD_setLatches (l : Latches) :
    (s.withD d).setLatches l = (s.setLatches l).withD d := rfl
@[simp] theorem memRead_withD (addr : Word) :
    memRead addr (s.withD d) = ((memRead addr s).1, (memRead addr s).2.withD d) := rfl
@[simp] theorem dummyRead_withD (addr : Word) :
    dummyRead addr (s.withD d) = (dummyRead addr s).withD d := rfl
@[simp] theorem memWrite_withD (addr : Word) (v : Byte) :
    memWrite addr v (s.withD d) = (memWrite addr v s).withD d := rfl

/-! ### The mode routines do not look at D -/

theorem indexed_withD (b : Word) (x : Byte) (k : Kind) :
    indexed b x k (s.withD d) = (indexed b x k s).withD d := by
  simp only [indexed, State.withD_latches, State.withD_setLatches, dummyRead_withD]
  split <;> rfl

theorem modeRun_withD (e : Entry) (w : Word) :
    modeRun e w (s.withD d) = (modeRun e w s).withD d := by
  unfold modeRun
  cases e.mode
  case ABX => exact indexed_withD d s _ _ _
  case ABY => exact indexed_withD d s _ _ _
  case IDY => exact indexed_withD d (memRead16Zp (lo w) s).2 _ _ _
  all_goals rfl

/-! ### Nor do the operations, those that push or load it apart -/

/-- ADC and SBC among them: they compute in binary whatever D says. -/
theorem readEffect_withD (e : Entry) (v : Byte) :
    readEffect e v (s.withD d) = (readEffect e v s).withD d := by
  unfold readEffect
  generalize e.operation = o
  split
  case h_13 => -- LAX, immediate and not
    split <;> rfl
  all_goals rfl

theorem storeRun_withD (o : Operation) :
    storeRun o (s.withD d) = (storeRun o s).withD d := by
  unfold storeRun
  split <;> rfl

theorem modifyFn_withD (o : Operation) (v : Byte) :
    modifyFn o v (s.withD d) = ((modifyFn o v s).1, (modifyFn o v s).2.withD d) := by
  unfold modifyFn
  split <;> rfl

theorem impliedRun_withD {o : Operation} (h : o ∉ dUsers) :
    impliedRun o (s.withD d) = (impliedRun o s).withD d := by
  unfold impliedRun
  split
  case h_12 | h_14 | h_16 | h_21 | h_22 => -- RTI, PHP, PLP, CLD, SED
    simp [dUsers] at h
  all_goals rfl

theorem branchTaken_withD (o : Operation) (p : Flags) :
    branchTaken o { p with d := d } = branchTaken o p := by
  unfold branchTaken
  split <;> rfl

theorem branch_withD (o : Operation) :
    branch (branchTaken o) (s.withD d) = (branch (branchTaken o) s).withD d := by
  have hq : branchQuirk (s.withD d) = (branchQuirk s).withD d := rfl
  have hp : branchTaken o (s.withD d).p = branchTaken o s.p := branchTaken_withD d o s.p
  simp only [branch, hq, hp, State.withD_pc, State.withD_latches, dummyRead_withD]
  split
  · split <;> rfl
  · rfl

theorem opRun_withD (i : Instr) (h : i.entry.operation ∉ dUsers) :
    opRun i.entry (s.withD d) = (opRun i.entry s).withD d := by
  unfold opRun
  cases hk : i.entry.kind <;> dsimp only
  case read =>
    split
    · exact readEffect_withD d s _ _
    · simp only [readOp, State.withD_latches, memRead_withD, State.withD_setLatches, readEffect_withD]
  case store => exact storeRun_withD d s _
  case rmw =>
    simp only [rmwOp, State.withD_latches, memRead_withD, memWrite_withD, modifyFn_withD]
  case acc => simp only [accOp, State.withD_a, modifyFn_withD, State.withD_setA]
  case implied => exact impliedRun_withD d s h
  case branch => exact branch_withD d s _
  case jump => split <;> rfl
  case brk => simp [entry_brk i hk, dUsers] at h

end WithD

end Sys2Proof.Machine

namespace Sys2Proof

open Machine

/-- Settles O59: every routine commutes with putting D to `d`. -/
theorem decimalFlagIgnored : Obligations.DecimalFlagIgnored := by
  intro i s d h
  refine ⟨_, exec_table i s, (exec_table i (s.withD d)).trans ?_⟩
  rw [modeRun_withD, opRun_withD d _ i h]
  rfl

end Sys2Proof

namespace Sys2Proof.Machine

/-! ## Internal RAM and cartridge space (20_memory.md R63, R67, R83) -/

/-- Masking an address with 0x07FF folds the mirrors of internal RAM as the bus map does. -/
theorem toNat_and_0x07FF (a : Word) : (a &&& 0x07FF#16).toNat = a.toNat % 0x800 := by
  rw [BitVec.toNat_and]
  exact Nat.and_two_pow_sub_one_eq_mod a.toNat 11

/-- A write cycle of plain cartridge space stores the byte where the window's access is ReadWrite, and
leaves memory where it is not. -/
theorem writeCycle_mem_cart (i : Bool) {addr : Word} (v : Byte) {b : Bus} (h : 0x4020 ≤ addr.toNat)
    (hp : b.plain) :
    (b.writeCycle i addr v).mem =
      if windowAccess b.windows addr.toNat = .readWrite then Memory.set b.mem addr.toNat v
      else b.mem := by
  have hw : (beginCycle b).windows = b.windows :=
    (catchUp_plain (b := { b with cycle := b.cycle + 1 }) hp).2.1
  rw [writeCycle_mem, busWrite, busTarget_cart h, hw]
  cases windowAccess b.windows addr.toNat with
  | none => exact beginCycle_mem b
  | read => exact beginCycle_mem b
  | readWrite => exact congrArg (Memory.set · addr.toNat v) (beginCycle_mem b)

end Sys2Proof.Machine

namespace Sys2Proof

open Machine

/-- Settles O44: a write sets the RAM byte its address folds onto, and a read yields the RAM byte its
own address folds onto; the rest is the law of `Memory.set`. -/
theorem ramReadAfterWrite : Obligations.RamReadAfterWrite := by
  intro i a a' v b ha
  have hmem : (b.writeCycle i a v).mem = Memory.set b.mem (a &&& 0x07FF#16).toNat v := by
    rw [toNat_and_0x07FF, writeCycle_mem_ram i v b ha]
  refine ⟨fun k hk => ?_, fun ha' => ?_⟩
  · rw [hmem, Memory.byteAt_set_ne _ _ hk]
  · rw [readCycle_val_ram i _ ha', readCycle_val_ram i b ha', hmem, ← toNat_and_0x07FF,
      Memory.byteAt_set]
    simp only [BitVec.toNat_inj]

/-- Settles O45: with no inputs left the cartridge is plain, so the windows at the start of the cycle
decide the write, and nothing but the listed byte answers the read. -/
theorem cartridgeWindows : Obligations.CartridgeWindows := by
  intro i addr v b haddr hin
  have hp : b.plain := by simp [Bus.plain, hin]
  refine ⟨fun hro => ?_, fun hrw k => ?_, fun hread => readCycle_val_cart i b haddr hp hread⟩
  · rw [writeCycle_mem_cart i v haddr hp, if_neg hro]
  · rw [writeCycle_mem_cart i v haddr hp, if_pos hrw, Memory.byteAt_set]

end Sys2Proof


namespace Sys2Proof

/-! ## What the decoder accepts, and the encoding of what it answers (30_encoding.md R100, R103, R107) -/

theorem opcode_instrOf (op b1 b2 : Byte) : (instrOf op b1 b2).opcode = op := (instrOf_spec op b1 b2).1

/-- The decoder takes an opcode and the operand bytes its mode asks for, and leaves what follows. -/
theorem decode_cons_append {op : Byte} {tl : List Byte}
    (h : tl.length = (table op).mode.operandBytes) (rest : List Byte) :
    decode (op :: (tl ++ rest)) = .ok (instrOf op (tl.getD 0 0) (tl.getD 1 0), rest) := by
  have hle : tl.length ≤ 2 := h ▸ operandBytes_le op
  unfold decode
  dsimp only
  rw [← h]
  match tl, hle with
  | [], _ => rfl
  | [_], _ => rfl
  | [_, _], _ => rfl

/-- Whatever the decoder accepts is an opcode and the operand bytes its mode asks for, and then the rest. -/
theorem of_decode_eq_ok {bs rest : List Byte} {i : Instr} (h : decode bs = .ok (i, rest)) :
    ∃ op tl, tl.length = (table op).mode.operandBytes ∧ bs = op :: (tl ++ rest) ∧
      i = instrOf op (tl.getD 0 0) (tl.getD 1 0) := by
  cases bs with
  | nil => cases h
  | cons op bs =>
    refine ⟨op, ?_⟩
    unfold decode at h
    dsimp only at h
    split at h
    case h_1 hn => cases h; exact ⟨[], hn.symm, rfl, rfl⟩
    case h_2 b1 _ hn => cases h; exact ⟨[b1], hn.symm, rfl, rfl⟩
    case h_3 b1 b2 _ hn => cases h; exact ⟨[b1, b2], hn.symm, rfl, rfl⟩
    case h_4 => cases h

/-- The encoder gives back the opcode and the operand bytes an instruction was made from. -/
theorem encode_instrOf {op : Byte} {tl : List Byte}
    (h : tl.length = (table op).mode.operandBytes) :
    encode (instrOf op (tl.getD 0 0) (tl.getD 1 0)) = op :: tl := by
  have hle : tl.length ≤ 2 := h ▸ operandBytes_le op
  obtain ⟨hop, hw⟩ := instrOf_spec op (tl.getD 0 0) (tl.getD 1 0)
  rw [encode, Instr.entry, hop, hw, ← h]
  match tl, hle with
  | [], _ => rfl
  | [b1], _ => simp [operandOf]
  | [b1, b2], _ => simp [operandOf]

/-- Settles O1: `encode_eq` says the encoding has the shape that the decoder takes. -/
theorem decodeEncode : Obligations.DecodeEncode := by
  intro i rest _
  obtain ⟨tl, he, hlen, hinstr⟩ := encode_eq i
  rw [he, List.cons_append, decode_cons_append hlen, hinstr]

/-- Settles O2: the bytes the decoder took are the encoding of the instruction it made from them. -/
theorem encodeDecode : Obligations.EncodeDecode := by
  intro bs rest i h
  obtain ⟨op, tl, hlen, rfl, rfl⟩ := of_decode_eq_ok h
  rw [encode_instrOf hlen, List.cons_append]

/-- Settles O3: two bytes after the opcode are enough for every mode, and the decoder takes of them as
many as the entry says. -/
theorem decodeTotal : Obligations.DecodeTotal := by
  intro b b1 b2 rest
  have hlen : ((b1 :: b2 :: rest).take (table b).mode.operandBytes).length =
      (table b).mode.operandBytes :=
    List.length_take_of_le ((operandBytes_le b).trans (Nat.le_add_left 2 rest.length))
  have hdec := decode_cons_append hlen ((b1 :: b2 :: rest).drop (table b).mode.operandBytes)
  rw [List.take_append_drop] at hdec
  rw [Entry.bytes, Nat.add_comm, List.drop_succ_cons]
  exact ⟨_, opcode_instrOf b _ _, congrArg table (opcode_instrOf b _ _), hdec⟩

/-- Settles O4: the decoder is run on each word. -/
theorem encodingSamples : Obligations.EncodingSamples :=
  ⟨rfl, rfl, rfl, rfl, rfl, rfl, rfl, rfl, rfl, rfl, rfl, rfl⟩

end Sys2Proof

/-! SUPPORT. Proofs of the statements of 40_addressing_modes.md: a step runs the instruction it decoded,
and the bus cycles of the fetch, of each addressing mode and of each kind of operation. -/

namespace Sys2Proof

open Machine

/-- Settles O5: `exec` always answers, and what follows it is the instruction-end check. -/
theorem stepRunsDecoded : Obligations.StepRunsDecoded := fun _ hreset hjam =>
  ⟨_, exec_table _ _, step_of_exec hreset hjam (exec_table _ _)⟩

end Sys2Proof

namespace Sys2Proof.Machine

/-! ## Appending one cycle to a plan -/

theorem Made.write {b c : Bus} {plan : List (Option (Bool × Word))} (h : Made b c plan) (i : Bool)
    (addr : Word) (v : Byte) : Made b (c.writeCycle i addr v) (plan ++ [wr addr]) :=
  h.trans (made_write i addr v c)

/-- The bus went from `b` to `c` by the cycles of `plan`, and no DMA is about at `c`. -/
def MadeQuiet (b c : Bus) (plan : List (Option (Bool × Word))) : Prop := Made b c plan ∧ c.noDma

theorem MadeQuiet.refl {b : Bus} (h : b.noDma) : MadeQuiet b b [] := ⟨.refl b, h⟩

theorem MadeQuiet.read {b c : Bus} {plan : List (Option (Bool × Word))} (h : MadeQuiet b c plan)
    (i : Bool) (addr : Word) : MadeQuiet b (c.read i addr).2 (plan ++ [rd addr]) :=
  ⟨h.1.trans (made_read i addr h.2).1, (made_read i addr h.2).2⟩

/-- A write of the stack page requests no DMA. -/
theorem MadeQuiet.push {b c : Bus} {plan : List (Option (Bool × Word))} (h : MadeQuiet b c plan)
    (i : Bool) (sp v : Byte) :
    MadeQuiet b (c.writeCycle i (stackAddr sp) v) (plan ++ [wr (stackAddr sp)]) :=
  ⟨h.1.write i (stackAddr sp) v, noDma_push i sp v h.2⟩

theorem MadeQuiet.trans {b c d : Bus} {p q : List (Option (Bool × Word))} (h : MadeQuiet b c p)
    (h' : MadeQuiet c d q) : MadeQuiet b d (p ++ q) := ⟨h.1.trans h'.1, h'.2⟩

/-! ## The fetch (40_addressing_modes.md R131) -/

theorem entry_fetchInstr (s : State) : (fetchInstr s).1.entry = table (fetchByte s).1 :=
  congrArg table (opcode_instrOf _ _ _)

/-- The opcode, then the operand bytes, one read each. -/
theorem madeQuiet_fetchInstr (s : State) (h : s.bus.noDma) :
    MadeQuiet s.bus (fetchInstr s).2.bus (fetchPlan (fetchInstr s).1 s.pc) := by
  have hop : MadeQuiet s.bus (fetchByte s).2.bus [rd s.pc] := (MadeQuiet.refl h).read s.p.i s.pc
  rw [fetchPlan, entry_fetchInstr, Entry.bytes, Nat.add_comm, fetchReads_succ]
  exact hop.trans (made_fetchBytes _ ((fetchByte s).2.setLatches _) hop.2)

/-! ## The addressing modes (40_addressing_modes.md R132 to R145) -/

/-- The two reads of a zero-page pointer and what they yield. -/
theorem memRead16Zp_eq (z : Byte) (s : State) :
    memRead16Zp z s = (s.zpPointer z,
      { s with bus := ((s.bus.read s.p.i (zext16 z)).2.read s.p.i (zext16 (z + 1))).2 }) := by
  obtain ⟨b, h, -⟩ := memRead16Zp_spec z s
  exact Prod.ext (by rw [h]) rfl

/-- The one cycle `Indexed` makes where it makes any (R145, R146). -/
theorem madeQuiet_indexed (w : Word) (x : Byte) (k : Kind) {s : State} (h : s.bus.noDma) :
    MadeQuiet s.bus (indexed w x k s).bus
      (if decide (hi (w + zext16 x) ≠ hi w) || decide (k = .store) || decide (k = .rmw) then
        [rd (mk16 (hi w) (lo (w + zext16 x)))] else []) := by
  unfold indexed
  dsimp only
  split
  · exact (MadeQuiet.refl h).read s.p.i _
  · exact .refl h

theorem madeQuiet_modeRun (i : Instr) {s : State} (h : s.bus.noDma) :
    MadeQuiet s.bus (modeRun i.entry i.operand s).bus (modePlan i s) := by
  have h0 := MadeQuiet.refl h
  unfold modeRun modePlan
  cases hm : i.entry.mode <;> dsimp only
  case IMP | ACC => exact h0.read s.p.i s.pc
  case IMM | ZP0 | REL | ABS => exact h0
  case ZPX | ZPY => exact h0.read s.p.i _
  case ABX | ABY =>
    simp only [indexPlan, crossesPage, uncorrected, effAddr, indexBase, hm]
    exact madeQuiet_indexed _ _ _ h
  case IDX => exact ((h0.read s.p.i _).read s.p.i _).read s.p.i _
  case IDY =>
    have hptr := (h0.read s.p.i (zext16 (operandByte i))).read s.p.i (zext16 (operandByte i + 1))
    simp only [indexPlan, crossesPage, uncorrected, effAddr, indexBase, hm]
    rw [modeIdy, memRead16Zp_eq]
    exact hptr.trans (madeQuiet_indexed _ _ _ hptr.2)
  case IND => exact (h0.read s.p.i _).read s.p.i _

/-! ## The kinds of operation (40_addressing_modes.md R147 to R149) -/

theorem made_immOp (e : Entry) (s : State) : Made s.bus (immOp (readEffect e) s).bus [] := by
  rw [immOp, readEffect_bus]
  exact .refl _

theorem made_readOp (e : Entry) {s : State} (h : s.bus.noDma) :
    Made s.bus (readOp (readEffect e) s).bus [rd s.latches.absAddr] := by
  rw [readOp, readEffect_bus]
  exact (made_read s.p.i _ h).1

theorem made_rmwOp (o : Operation) {s : State} (h : s.bus.noDma) :
    Made s.bus (rmwOp (modifyFn o) s).bus
      [rd s.latches.absAddr, wr s.latches.absAddr, wr s.latches.absAddr] := by
  simp only [rmwOp, memWrite_bus, modifyFn_bus]
  exact ((made_read s.p.i _ h).1.write _ _ _).write _ _ _

theorem made_accOp (o : Operation) (s : State) : Made s.bus (accOp (modifyFn o) s).bus [] := by
  rw [accOp, State.setA_bus, (modifyFn_bus o s.a s).1]
  exact .refl _

/-- The store-kind operations. -/
def storers : List Operation := [.STA, .STX, .STY, .SAX, .AHX, .TAS, .SHX, .SHY]

theorem mem_storers {o : Operation} {m : AddrMode} (h : kindOf o m = .store) : o ∈ storers := by
  revert h
  cases o <;> simp [kindOf, storers]
  case ASL | LSR | ROL | ROR | NOP => split <;> simp

/-- The one write of a store, at the effective address but for the unstable four. -/
theorem made_storeRun {o : Operation} (ho : o ∈ storers) (s : State) :
    Made s.bus (storeRun o s).bus
      [wr (if isUnstable o then unstableAddr (unstableReg o s) s else s.latches.absAddr)] := by
  simp only [storers, List.mem_cons, List.not_mem_nil, or_false] at ho
  rcases ho with rfl | rfl | rfl | rfl | rfl | rfl | rfl | rfl <;> exact made_write s.p.i _ _ s.bus

/-- The branch's reads at the `PC` after its operand: one if taken, one more if it leaves the page
(44_branch_jump.md R220). -/
theorem made_branch (cond : Flags → Bool) {s : State} (h : s.bus.noDma) :
    Made s.bus (branch cond s).bus
      (if cond s.p then
        if hi (s.pc + sext16 s.latches.relAddr) ≠ hi s.pc then [rd s.pc, rd s.pc] else [rd s.pc]
      else []) := by
  have hq : MadeQuiet s.bus (branchQuirk s).bus [] := MadeQuiet.refl h
  have h1 := hq.read s.p.i s.pc
  have hpc : (dummyRead s.pc (branchQuirk s)).pc = s.pc := rfl
  have hrel : (dummyRead s.pc (branchQuirk s)).latches = s.latches := rfl
  simp only [branch, hpc, hrel]
  split
  · split
    · exact (h1.read s.p.i s.pc).1
    · exact h1.1
  · exact .refl _

/-- The three pushes of an entry. -/
theorem madeQuiet_entryBus (brk : Bool) {s : State} (h : s.bus.noDma) :
    MadeQuiet s.bus (entryBus brk s)
      [wr (stackAddr s.sp), wr (stackAddr (s.sp - 1)), wr (stackAddr (s.sp - 1 - 1))] := by
  have hc : MadeQuiet s.bus { choiceBus s with nmi := false }
      [wr (stackAddr s.sp), wr (stackAddr (s.sp - 1))] :=
    ((MadeQuiet.refl h).push s.p.i s.sp _).push s.p.i (s.sp - 1) _
  exact hc.push s.p.i (s.sp - 1 - 1) _

/-- BRK's pushes and the reads of its vector (45_stack_flags_system.md R252). -/
theorem made_brkOp {s : State} (h : s.bus.noDma) :
    Made s.bus (brkOp s).bus
      [wr (stackAddr s.sp), wr (stackAddr (s.sp - 1)), wr (stackAddr (s.sp - 2)),
        rd (entryVec s), rd (entryVec s + 1)] := by
  have hsp : s.sp - 2 = s.sp - 1 - 1 := by bv_omega
  rw [hsp, brkOp, takeException_eq]
  exact (((madeQuiet_entryBus true h).read true (entryVec s)).read true (entryVec s + 1)).1

/-- JSR's dummy stack read and its two pushes (44_branch_jump.md R231). -/
theorem made_jsrOp {s : State} (h : s.bus.noDma) :
    Made s.bus (jsrOp s).bus
      [rd (stackAddr s.sp), wr (stackAddr s.sp), wr (stackAddr (s.sp - 1))] :=
  ((((MadeQuiet.refl h).read s.p.i _).push s.p.i _ _).push s.p.i _ _).1

/-- A dummy stack read and a pull. -/
theorem madeQuiet_pull {s : State} (h : s.bus.noDma) :
    MadeQuiet s.bus (pull (dummyStackRead s)).2.bus
      [rd (stackAddr s.sp), rd (stackAddr (s.sp + 1))] :=
  ((MadeQuiet.refl h).read s.p.i _).read s.p.i _

/-- RTS reads the stack three times and then the address it returns to (44_branch_jump.md R232). -/
theorem made_rtsOp {s : State} (h : s.bus.noDma) :
    Made s.bus (rtsOp s).bus
      [rd (stackAddr s.sp), rd (stackAddr (s.sp + 1)), rd (stackAddr (s.sp + 2)),
        rd (rtsTarget s)] := by
  have hsp : s.sp + 2 = s.sp + 1 + 1 := by bv_omega
  have hret : (pull16 (dummyStackRead s)).1 + 1 = rtsTarget s := by
    have hram := ram_congr (s := s) (t := dummyStackRead s) (read_mem _ _ _)
    obtain ⟨b, hpull, -⟩ := pull16_spec (dummyStackRead s)
    simp only [hpull, hram, rtsTarget, hsp]
    rfl
  have hpulls := (madeQuiet_pull h).read s.p.i (stackAddr (s.sp + 1 + 1))
  rw [rtsOp, hret, hsp]
  exact (hpulls.read s.p.i (rtsTarget s)).1

/-- RTI reads the stack four times (45_stack_flags_system.md R253). The flags it pulls, I among them,
are in force for the last two reads. -/
theorem made_rtiOp {s : State} (h : s.bus.noDma) :
    Made s.bus (rtiOp s).bus
      [rd (stackAddr s.sp), rd (stackAddr (s.sp + 1)), rd (stackAddr (s.sp + 2)),
        rd (stackAddr (s.sp + 3))] := by
  have h2 : s.sp + 2 = s.sp + 1 + 1 := by bv_omega
  have h3 : s.sp + 3 = s.sp + 1 + 1 + 1 := by bv_omega
  rw [h2, h3]
  exact (((madeQuiet_pull h).read _ (stackAddr (s.sp + 1 + 1))).read _
    (stackAddr (s.sp + 1 + 1 + 1))).1

/-! ## The operation after its mode -/

/-- The kinds that access an operand have a mode that gives its address. -/
theorem mode_hasAddr (i : Instr) (h : i.entry.kind ∈ [.read, .store, .rmw]) :
    i.entry.mode ∉ [.IMP, .ACC, .REL, .IND] := by
  have : ∀ b : Byte, (table b).kind ∈ [Kind.read, .store, .rmw] →
      (table b).mode ∉ [AddrMode.IMP, .ACC, .REL, .IND] := by decide
  exact this i.opcode h

section OpRun
variable {i : Instr} {s : State} {l : Latches} {b : Bus}

/-- An implied operation that uses the stack makes its stack cycles, any other none. -/
theorem made_impliedRun (hk : i.entry.kind = .implied) (hb : b.noDma) (hm : b.mem = s.bus.mem)
    (nmi : Bool) :
    Made b (impliedRun i.entry.operation { s with latches := l, bus := b }).bus
      (opPlan nmi i s) := by
  have hrts : rtsTarget { s with latches := l, bus := b } = rtsTarget s := by
    simp only [rtsTarget, State.ram, hm]
  simp only [opPlan, hk]
  generalize i.entry.operation = o
  cases o
  case PHA | PHP => exact made_write s.p.i _ _ b
  case PLA | PLP => exact (madeQuiet_pull hb).1
  case RTS => rw [← hrts]; exact made_rtsOp hb
  case RTI => exact made_rtiOp hb
  all_goals exact .refl b

/-- A store's write is at the address of Safety.lean. -/
theorem made_storePlan (hk : i.entry.kind = .store) (hl : LatchesReady i s l) :
    Made b (storeRun i.entry.operation { s with latches := l, bus := b }).bus
      [wr (storeAddr i s)] := by
  have haddr : (if isUnstable i.entry.operation then
      unstableAddr (unstableReg i.entry.operation { s with latches := l, bus := b })
        { s with latches := l, bus := b } else l.absAddr) = storeAddr i s := by
    split
    case isTrue hu => exact (unstable_spec i s _ _ hu rfl hl).2
    case isFalse hu => simp [storeAddr, hu, hl.1 (mode_hasAddr i (by simp [hk]))]
  rw [← haddr]
  exact made_storeRun (mem_storers ((entry_kind i).symm.trans hk)) _

/-- The operation makes the cycles of its plan, from the state its mode routine left. BRK takes the
vector that the `nmi` latch says when it chooses. -/
theorem made_opRun (hl : LatchesReady i s l) (hb : b.noDma) (hm : b.mem = s.bus.mem) :
    Made b (opRun i.entry { s with latches := l, bus := b }).bus
      (opPlan (choiceBus { s with latches := l, bus := b }).nmi i s) := by
  have ⟨hea, _, hrel, _, _⟩ := hl
  have hmode := entry_kindMode i
  cases hk : i.entry.kind <;> rw [hk] at hmode <;> simp only [opRun, hk]
  case implied => exact made_impliedRun hk hb hm _
  all_goals simp only [opPlan, hk]
  case read =>
    split
    case isTrue => exact made_immOp i.entry _
    case isFalse =>
      rw [← hea (mode_hasAddr i (by simp [hk]))]
      exact made_readOp i.entry hb
  case store => exact made_storePlan hk hl
  case rmw =>
    rw [← hea (mode_hasAddr i (by simp [hk]))]
    exact made_rmwOp i.entry.operation hb
  case acc => exact made_accOp i.entry.operation _
  case branch =>
    rw [branchTarget, ← hrel (by simpa [kindMode] using hmode)]
    exact made_branch _ hb
  case jump =>
    split
    · exact made_jsrOp hb
    · exact .refl b
  case brk => exact made_brkOp hb

end OpRun

/-- Every instruction makes the cycles of its mode and then those of its operation. -/
theorem exec_made (i : Instr) {s : State} (h : s.bus.noDma) :
    ∃ t nmi, exec i s = .next t ∧ Made s.bus t.bus (busPlan nmi i s) := by
  have hmode := madeQuiet_modeRun i h
  obtain ⟨l, b, hrun, hb, hl, -⟩ := modeRun_spec i s
  refine ⟨_, (choiceBus (modeRun i.entry i.operand s)).nmi, exec_table i s, ?_⟩
  rw [hrun] at hmode ⊢
  exact hmode.1.trans (made_opRun hl hmode.2 (hb.mem_eq dmaWrites_memKey))

end Sys2Proof.Machine

namespace Sys2Proof

open Machine

/-- Settles O52: the plans of the fetch, of each mode and of each kind of operation are what their
routines make, cycle by cycle. -/
theorem busCycles : Obligations.BusCycles := by
  refine ⟨fun s h => ?_, fun i s h => ?_⟩
  · obtain ⟨hmade, hquiet⟩ := madeQuiet_fetchInstr s h
    exact ⟨hquiet, hmade.1⟩
  · obtain ⟨t, nmi, ht, hmade⟩ := exec_made i h
    exact ⟨t, nmi, ht, hmade.1⟩

end Sys2Proof

/-! SUPPORT. Proofs of the statements of 41_load_store_transfer.md: loads, stores and register
transfers, each from the law of its kind in Laws/Results.lean and what its operation does to the
registers. -/

namespace Sys2Proof.Machine

/-! ## What a load or a transfer does to the registers, Z and N by `znSpec` -/

section Effects
variable (v : Byte) (s : State)

theorem State.setZn_eq : s.setZn v = { s with p := znSpec v s.p } :=
  congrArg s.setP (Machine.setZn_eq v s.p)

theorem ldaEffect_eq : ldaEffect v s = { s with a := v, p := znSpec v s.p } :=
  (s.setA v).setZn_eq v

theorem ldxEffect_eq : ldxEffect v s = { s with x := v, p := znSpec v s.p } :=
  (s.setX v).setZn_eq v

theorem ldyEffect_eq : ldyEffect v s = { s with y := v, p := znSpec v s.p } :=
  (s.setY v).setZn_eq v

theorem laxEffect_eq : laxEffect v s = { s with a := v, x := v, p := znSpec v s.p } :=
  ((s.setA v).setX v).setZn_eq v

theorem taxOp_eq : taxOp s = { s with x := s.a, p := znSpec s.a s.p } :=
  (s.setX s.a).setZn_eq s.a

theorem tayOp_eq : tayOp s = { s with y := s.a, p := znSpec s.a s.p } :=
  (s.setY s.a).setZn_eq s.a

theorem txaOp_eq : txaOp s = { s with a := s.x, p := znSpec s.x s.p } :=
  (s.setA s.x).setZn_eq s.x

theorem tyaOp_eq : tyaOp s = { s with a := s.y, p := znSpec s.y s.p } :=
  (s.setA s.y).setZn_eq s.y

theorem tsxOp_eq : tsxOp s = { s with x := s.sp, p := znSpec s.sp s.p } :=
  (s.setX s.sp).setZn_eq s.sp

end Effects

end Sys2Proof.Machine

namespace Sys2Proof

open Machine

/-- Settles O8: the law of the read kind, with the effect of each operation. -/
theorem loadResults : Obligations.LoadResults := by
  intro i s
  refine ⟨fun h => exec_readsThen i s (kind_of i h) _ fun v l b => ?_,
    fun h => exec_readsThen i s (kind_of i h) _ fun v l b => ?_,
    fun h => exec_readsThen i s (kind_of i h) _ fun v l b => ?_,
    fun h himm => exec_readsThen i s (kind_of i h) _ fun v l b => ?_⟩
  · simp only [readEffect, h, ldaEffect_eq]
  · simp only [readEffect, h, ldxEffect_eq]
  · simp only [readEffect, h, ldyEffect_eq]
  · simp only [readEffect, h, if_neg himm, laxEffect_eq]

/-- Settles O9: the law of the store kind; the byte stored depends on the registers only. -/
theorem storeResults : Obligations.StoreResults := fun i s =>
  ⟨fun h => exec_store i s (kind_of i h) staValue (by rw [h]; rfl) fun _ _ => rfl,
    fun h => exec_store i s (kind_of i h) stxValue (by rw [h]; rfl) fun _ _ => rfl,
    fun h => exec_store i s (kind_of i h) styValue (by rw [h]; rfl) fun _ _ => rfl,
    fun h => exec_store i s (kind_of i h) saxValue (by rw [h]; rfl) fun _ _ => rfl⟩

/-- Settles O11: the law of the implied kind, with the effect of each operation; TXS writes `SP`
alone. -/
theorem transferResults : Obligations.TransferResults := fun s =>
  ⟨⟨rfl, exec_implied .tax s _ rfl fun _ _ => taxOp_eq _⟩,
    ⟨rfl, exec_implied .tay s _ rfl fun _ _ => tayOp_eq _⟩,
    ⟨rfl, exec_implied .txa s _ rfl fun _ _ => txaOp_eq _⟩,
    ⟨rfl, exec_implied .tya s _ rfl fun _ _ => tyaOp_eq _⟩,
    ⟨rfl, exec_implied .tsx s _ rfl fun _ _ => tsxOp_eq _⟩,
    ⟨rfl, exec_implied .txs s _ rfl fun _ _ => rfl⟩⟩

end Sys2Proof

/-! SUPPORT. Proofs of the statements of 42_alu.md: arithmetic, logic, comparison, increment and
decrement, each from the law of its kind in Laws/Results.lean and what its operation does to the
registers. -/

namespace Sys2Proof.Machine

/-! ## What an ALU operation does to the registers, in the arithmetic of Safety.lean -/

section AluEffects
variable (v : Byte) (s : State)

theorem adcEffect_eq :
    adcEffect v s = { s with a := (addSpec s.a v s.p).1, p := (addSpec s.a v s.p).2 } := by
  rw [← adcFlags_eq]
  rfl

theorem sbcEffect_eq :
    sbcEffect v s = { s with a := (subSpec s.a v s.p).1, p := (subSpec s.a v s.p).2 } := by
  rw [← sbcFlags_eq]
  rfl

theorem andEffect_eq :
    andEffect v s = { s with a := s.a &&& v, p := znSpec (s.a &&& v) s.p } :=
  (s.setA (s.a &&& v)).setZn_eq (s.a &&& v)

theorem oraEffect_eq :
    oraEffect v s = { s with a := s.a ||| v, p := znSpec (s.a ||| v) s.p } :=
  (s.setA (s.a ||| v)).setZn_eq (s.a ||| v)

theorem eorEffect_eq :
    eorEffect v s = { s with a := s.a ^^^ v, p := znSpec (s.a ^^^ v) s.p } :=
  (s.setA (s.a ^^^ v)).setZn_eq (s.a ^^^ v)

theorem bitEffect_eq :
    bitEffect v s = { s with p := { s.p with z := decide (s.a &&& v = 0#8), n := v.getLsbD 7,
                                             v := v.getLsbD 6 } } := by
  rw [← beq_eq_decide]
  rfl

theorem cmpEffect_eq : cmpEffect v s = { s with p := compareSpec s.a v s.p } :=
  congrArg s.setP (compare_eq s.a v s.p)

theorem cpxEffect_eq : cpxEffect v s = { s with p := compareSpec s.x v s.p } :=
  congrArg s.setP (compare_eq s.x v s.p)

theorem cpyEffect_eq : cpyEffect v s = { s with p := compareSpec s.y v s.p } :=
  congrArg s.setP (compare_eq s.y v s.p)

theorem incFn_eq : incFn v s = (v + 1, { s with p := znSpec (v + 1) s.p }) :=
  congrArg (Prod.mk (v + 1)) (s.setZn_eq (v + 1))

theorem decFn_eq : decFn v s = (v - 1, { s with p := znSpec (v - 1) s.p }) :=
  congrArg (Prod.mk (v - 1)) (s.setZn_eq (v - 1))

theorem inxOp_eq : inxOp s = { s with x := s.x + 1, p := znSpec (s.x + 1) s.p } :=
  (s.setX (s.x + 1)).setZn_eq (s.x + 1)

theorem inyOp_eq : inyOp s = { s with y := s.y + 1, p := znSpec (s.y + 1) s.p } :=
  (s.setY (s.y + 1)).setZn_eq (s.y + 1)

theorem dexOp_eq : dexOp s = { s with x := s.x - 1, p := znSpec (s.x - 1) s.p } :=
  (s.setX (s.x - 1)).setZn_eq (s.x - 1)

theorem deyOp_eq : deyOp s = { s with y := s.y - 1, p := znSpec (s.y - 1) s.p } :=
  (s.setY (s.y - 1)).setZn_eq (s.y - 1)

end AluEffects

end Sys2Proof.Machine

namespace Sys2Proof

open Machine

/-- Settles O14: the law of the read kind; the sum and the difference are those of the integers by
`adcFlags_eq` and `sbcFlags_eq`. -/
theorem addSubResults : Obligations.AddSubResults := fun i s =>
  ⟨fun h => exec_readsThen i s (kind_of i h) _ fun _ _ _ => by
      simp only [readEffect, h, adcEffect_eq],
    fun h => exec_readsThen i s (kind_of i h) _ fun _ _ _ => by
      simp only [readEffect, h, sbcEffect_eq]⟩

/-- Settles O16: the law of the read kind, with the effect of each operation. -/
theorem logicResults : Obligations.LogicResults := fun i s =>
  ⟨fun h => exec_readsThen i s (kind_of i h) _ fun _ _ _ => by
      simp only [readEffect, h, andEffect_eq],
    fun h => exec_readsThen i s (kind_of i h) _ fun _ _ _ => by
      simp only [readEffect, h, oraEffect_eq],
    fun h => exec_readsThen i s (kind_of i h) _ fun _ _ _ => by
      simp only [readEffect, h, eorEffect_eq],
    fun h => exec_readsThen i s (kind_of i h) _ fun _ _ _ => by
      simp only [readEffect, h, bitEffect_eq]⟩

/-- Settles O17: `compare_eq` gives Z as equality; bit 7 of the difference is its sign bit. -/
theorem compareFlags : Obligations.CompareFlags := by
  intro r v p
  rw [compare_eq, compareSpec, BitVec.msb_eq_getLsbD_last]

/-- Settles O18: the law of the read kind; a comparison writes the flags of `compare_eq` alone. -/
theorem compareResults : Obligations.CompareResults := fun i s =>
  ⟨fun h => exec_readsThen i s (kind_of i h) _ fun _ _ _ => by
      simp only [readEffect, h, cmpEffect_eq],
    fun h => exec_readsThen i s (kind_of i h) _ fun _ _ _ => by
      simp only [readEffect, h, cpxEffect_eq],
    fun h => exec_readsThen i s (kind_of i h) _ fun _ _ _ => by
      simp only [readEffect, h, cpyEffect_eq]⟩

/-- Settles O19: the law of the read-modify-write kind, with the new value and flags of each
operation. -/
theorem incDecMemory : Obligations.IncDecMemory := fun i s =>
  ⟨fun h => exec_rmw i s (kind_of i h) _ fun _ _ _ => by
      simp only [modifyFn, h, incFn_eq],
    fun h => exec_rmw i s (kind_of i h) _ fun _ _ _ => by
      simp only [modifyFn, h, decFn_eq]⟩

/-- Settles O20: the law of the implied kind, with the effect of each operation; opcode, mode and
cycle count are the table's. -/
theorem incDecRegister : Obligations.IncDecRegister := fun s =>
  ⟨⟨rfl, rfl, rfl, exec_implied .inx s _ rfl fun _ _ => inxOp_eq _⟩,
    ⟨rfl, rfl, rfl, exec_implied .iny s _ rfl fun _ _ => inyOp_eq _⟩,
    ⟨rfl, rfl, rfl, exec_implied .dex s _ rfl fun _ _ => dexOp_eq _⟩,
    ⟨rfl, rfl, rfl, exec_implied .dey s _ rfl fun _ _ => deyOp_eq _⟩⟩

end Sys2Proof

/-! SUPPORT. Proof of the statement of 43_shift_rotate.md: the four shifts on `A` and on memory, from
the laws of the two kinds in Laws/Results.lean and one equation for the new value and flags. -/

namespace Sys2Proof.Machine

/-! ## What a shift does to its byte and the flags (43_shift_rotate.md R210 to R214) -/

/-- The new value of a shift of `v` and the state it leaves, in the words of Safety.lean. -/
def shiftResult (o : Operation) (v : Byte) (s : State) : Byte × State :=
  ((shiftSpec o v s.p).1, { s with p := znSpec (shiftSpec o v s.p).1 (shiftSpec o v s.p).2 })

theorem shiftFn_eq {bits : Byte → Flags → Byte × Flags} {o : Operation}
    (hbits : ∀ v p, bits v p = shiftSpec o v p) (v : Byte) (s : State) :
    shiftFn bits v s = shiftResult o v s := by
  rw [shiftFn, hbits, withZn, setZn_eq]
  rfl

section Shift
variable {o : Operation} (ho : o = .ASL ∨ o = .LSR ∨ o = .ROL ∨ o = .ROR)
include ho

theorem modifyFn_shift (v : Byte) (s : State) : modifyFn o v s = shiftResult o v s := by
  obtain rfl | rfl | rfl | rfl := ho
  · exact shiftFn_eq aslBits_eq v s
  · exact shiftFn_eq lsrBits_eq v s
  · exact shiftFn_eq rolBits_eq v s
  · exact shiftFn_eq rorBits_eq v s

theorem kindOf_shift (m : AddrMode) : kindOf o m = if m = .ACC then .acc else .rmw := by
  obtain rfl | rfl | rfl | rfl := ho <;> rfl

end Shift

end Sys2Proof.Machine

namespace Sys2Proof

open Machine

/-- Settles O21: the mode tells the accumulator kind from the read-modify-write kind, and under the
law of either the new value and flags are those of `modifyFn_shift`. -/
theorem shiftResults : Obligations.ShiftResults := by
  intro i s o ho hop
  have hkind : i.entry.kind = if i.entry.mode = .ACC then .acc else .rmw :=
    (kind_of i hop).trans (kindOf_shift ho _)
  have hmodify : ∀ v t, modifyFn i.entry.operation v t = shiftResult o v t := by
    rw [hop]
    exact modifyFn_shift ho
  exact ⟨fun hacc => exec_acc i s (hkind.trans (if_pos hacc)) (shiftResult o s.a s) fun _ _ =>
      hmodify _ _,
    fun hmem => exec_rmw i s (hkind.trans (if_neg hmem)) (fun v => shiftResult o v s) fun _ _ _ =>
      hmodify _ _⟩

end Sys2Proof

/-! SUPPORT. Proofs of the statements of 44_branch_jump.md: the branches from `branch_spec`, JMP from
the two reads of its pointer, JSR and RTS from the stack lemmas `exec_jsr` and `exec_rts`. -/

namespace Sys2Proof.Machine

/-! ## Branches (44_branch_jump.md R220 to R228) -/

theorem entry_mode_of_branch {i : Instr} (hk : i.entry.kind = .branch) : i.entry.mode = .REL := by
  simpa [hk, kindMode] using entry_kindMode i

/-- A branch: its mode leaves the offset byte in the latch `branch_spec` reads. -/
theorem exec_branch (i : Instr) (s : State) (hk : i.entry.kind = .branch) :
    RunsTo i s { s with pc := if branchTaken i.entry.operation s.p = true
                              then s.pc + sext16 (operandByte i) else s.pc } := by
  obtain ⟨l, b, hmode, hb, ⟨-, -, hrel, -, -⟩, -⟩ := modeRun_spec i s
  obtain ⟨b', hop, hb'⟩ := branch_spec (branchTaken i.entry.operation)
    { s with latches := l, bus := b }
  rw [hrel (entry_mode_of_branch hk)] at hop
  have hexec := exec_table i s
  simp only [hmode, opRun, hk, hop] at hexec
  exact ⟨_, hexec, (hb.trans hb').mem_eq dmaWrites_memKey, rfl⟩

/-! ## Jumps (44_branch_jump.md R229, R230) -/

theorem exec_jmpAbs (addr : Word) (s : State) : RunsTo (.jmpAbs addr) s { s with pc := addr } :=
  ⟨_, rfl, rfl, rfl⟩

/-- Two reads in a row: the second is the last event, and the first is among those before it. -/
theorem read_read_trace (i j : Bool) (addr addr' : Word) (b : Bus) :
    ∃ rest, ((b.read i addr).2.read j addr').2.trace =
        .read addr' ((b.read i addr).2.read j addr').1 :: rest ∧
      .read addr (b.read i addr).1 ∈ rest := by
  obtain ⟨_, hfst⟩ := read_trace i addr b
  obtain ⟨evs, hsnd⟩ := read_trace_suffix j addr' (b.read i addr).2
  exact ⟨_, hsnd, by simp [hfst]⟩

/-- JMP indirect reads its pointer with the page wrap (20_memory.md R88) and jumps to the two bytes. -/
theorem exec_jmpInd (addr : Word) (s : State) :
    ∃ l h t, exec (.jmpInd addr) s = .next t ∧ t.bus.mem = s.bus.mem ∧
      t = { s with pc := mk16 h l, latches := t.latches, bus := t.bus } ∧
      (∃ rest, t.bus.trace = .read (indirectHigh addr) h :: rest ∧ .read addr l ∈ rest) ∧
      MustRead s addr l ∧ MustRead s (indirectHigh addr) h := by
  have hlow := read_run s.p.i addr s.bus
  have hhigh := read_runs hlow s.p.i (indirectHigh addr)
  exact ⟨_, _, _, rfl, hhigh.mem_eq dmaWrites_memKey, rfl,
    read_read_trace s.p.i s.p.i addr (indirectHigh addr) s.bus,
    read_mustRead .refl s.p.i addr, read_mustRead hlow s.p.i (indirectHigh addr)⟩

end Sys2Proof.Machine

namespace Sys2Proof

open Machine

/-- Settles O27, by the law of the branch kind. -/
theorem branchResults : Obligations.BranchResults := exec_branch

/-- Settles O28: the absolute jump takes its operand, the indirect one the two bytes of its pointer. -/
theorem jumpResults : Obligations.JumpResults := fun addr s =>
  ⟨exec_jmpAbs addr s, exec_jmpInd addr s⟩

/-- Settles O29: the push of JSR and the pull of RTS, each from its stack lemma. -/
theorem callResults : Obligations.CallResults := fun addr s =>
  ⟨exec_jsr addr s, exec_rts s⟩

end Sys2Proof

/-! SUPPORT. Proofs of the statements of 45_stack_flags_system.md: BRK from the entry sequence, RTI from
the return sequence, the stack instructions from their stack lemmas, the flag instructions and the NOPs
from the laws of their kinds. -/

namespace Sys2Proof.Machine

/-! ## BRK and RTI (45_stack_flags_system.md R252, R253) -/

/-- BRK is the entry sequence with B set, from `s` itself but for the latches: its mode makes no bus
cycle, and clearing `prev_nmi` afterwards (60_exceptions.md R323) touches neither memory nor trace. -/
theorem exec_brk (pad : Byte) (s : State) :
    ∃ l h t, exec (.brk pad) s = .next t ∧
      Pushed s t [hi s.pc, lo s.pc, s.p.pushByte true] ∧
      t = { s with sp := s.sp - 3, p := { s.p with i := true }, pc := mk16 h l,
                   latches := t.latches, bus := t.bus } ∧
      VectorFetched s t (entryVec s) l h := by
  obtain ⟨l, h, b, hentry, hpush, hvec⟩ :=
    takeException_spec true (s0 := s) (s := modeImm pad s) .refl
  refine ⟨l, h, brkOp (modeImm pad s), rfl, ?_, ?_, ?_⟩ <;> rw [brkOp, hentry]
  · exact hpush
  · rfl
  · exact hvec

/-- RTI is the return sequence after two dummy reads, which leave memory as it was. -/
theorem exec_rti (s : State) :
    RunsTo .rti s
      { s with sp := s.sp + 3, p := Flags.ofByte (s.ram (stackAddr (s.sp + 1))),
               pc := mk16 (s.ram (stackAddr (s.sp + 3))) (s.ram (stackAddr (s.sp + 2))) } := by
  obtain ⟨b, hret, hb⟩ := returnFromException_spec (dummyStackRead (modeImp s))
  simp only [dummyStackRead_modeImp_ram] at hret
  refine ⟨rtiOp (modeImp s), rfl, ?_, ?_⟩ <;> rw [rtiOp, hret]
  · exact (hb.mem_eq dmaWrites_memKey).trans ((read_mem _ _ _).trans (read_mem _ _ _))
  · rfl

end Sys2Proof.Machine

namespace Sys2Proof

open Machine

/-- Settles O33: the vector is the one `entryVec` chooses after the two pushes of `PC`. -/
theorem brkResult : Obligations.BrkResult := exec_brk

/-- Settles O34, by the return sequence. -/
theorem rtiResult : Obligations.RtiResult := exec_rti

/-- Settles O30: each stack instruction by its own stack lemma; the byte PHP pushes is
`pushByte_true`'s. -/
theorem stackResults : Obligations.StackResults := fun s =>
  ⟨exec_pha s, pushByte_true s.p ▸ exec_php s, exec_pla s, exec_plp s⟩

/-- Settles O32: the law of the implied kind; each routine sets its one flag. -/
theorem flagResults : Obligations.FlagResults := fun s =>
  ⟨⟨rfl, exec_implied .clc s _ rfl fun _ _ => rfl⟩,
    ⟨rfl, exec_implied .sec s _ rfl fun _ _ => rfl⟩,
    ⟨rfl, exec_implied .cli s _ rfl fun _ _ => rfl⟩,
    ⟨rfl, exec_implied .sei s _ rfl fun _ _ => rfl⟩,
    ⟨rfl, exec_implied .cld s _ rfl fun _ _ => rfl⟩,
    ⟨rfl, exec_implied .sed s _ rfl fun _ _ => rfl⟩,
    ⟨rfl, exec_implied .clv s _ rfl fun _ _ => rfl⟩⟩

/-- Settles O25: the mode tells the implied NOPs from the reading ones, and under the law of either
kind the effect is none. -/
theorem nopResults : Obligations.NopResults := by
  intro i s hop
  have hkind : i.entry.kind = if i.entry.mode = .IMP then .implied else .read := kind_of i hop
  refine ⟨fun himp => exec_implied i s s (hkind.trans (if_pos himp)) fun l b => ?_,
    fun hmem => exec_readsThen i s (hkind.trans (if_neg hmem)) _ fun v l b => ?_⟩
  · rw [hop]
    rfl
  · rw [readEffect, hop]
    rfl

end Sys2Proof

/-! SUPPORT. Proofs of the statements of 46_unofficial.md: the combined read-modify-writes, the combined
immediates and the jam opcodes, each from the law of its kind in Laws/Results.lean and what its operation
does to the byte, the registers and the flags. -/

namespace Sys2Proof.Machine

/-! ## The two halves of a combined operation, in the arithmetic of Safety.lean -/

section CombinedEffects
variable (v : Byte) (s : State)

theorem sloFn_eq :
    sloFn v s = ((shiftSpec .ASL v s.p).1,
      { s with a := s.a ||| (shiftSpec .ASL v s.p).1,
               p := znSpec (s.a ||| (shiftSpec .ASL v s.p).1) (shiftSpec .ASL v s.p).2 }) := by
  rw [← aslBits_eq, ← setZn_eq]
  rfl

theorem rlaFn_eq :
    rlaFn v s = ((shiftSpec .ROL v s.p).1,
      { s with a := s.a &&& (shiftSpec .ROL v s.p).1,
               p := znSpec (s.a &&& (shiftSpec .ROL v s.p).1) (shiftSpec .ROL v s.p).2 }) := by
  rw [← rolBits_eq, ← setZn_eq]
  rfl

theorem sreFn_eq :
    sreFn v s = ((shiftSpec .LSR v s.p).1,
      { s with a := s.a ^^^ (shiftSpec .LSR v s.p).1,
               p := znSpec (s.a ^^^ (shiftSpec .LSR v s.p).1) (shiftSpec .LSR v s.p).2 }) := by
  rw [← lsrBits_eq, ← setZn_eq]
  rfl

/-- RRA adds with the carry the rotate shifted out (R274). -/
theorem rraFn_eq :
    rraFn v s = ((shiftSpec .ROR v s.p).1,
      { s with a := (addSpec s.a (shiftSpec .ROR v s.p).1 (shiftSpec .ROR v s.p).2).1,
               p := (addSpec s.a (shiftSpec .ROR v s.p).1 (shiftSpec .ROR v s.p).2).2 }) := by
  rw [← rorBits_eq, ← adcFlags_eq]
  rfl

theorem dcpFn_eq : dcpFn v s = (v - 1, { s with p := compareSpec s.a (v - 1) s.p }) :=
  congrArg (Prod.mk (v - 1)) (cmpEffect_eq (v - 1) s)

theorem isbFn_eq :
    isbFn v s = (v + 1, { s with a := (subSpec s.a (v + 1) s.p).1,
                                 p := (subSpec s.a (v + 1) s.p).2 }) :=
  congrArg (Prod.mk (v + 1)) (sbcEffect_eq (v + 1) s)

theorem ancEffect_eq :
    ancEffect v s =
      { s with a := s.a &&& v, p := { znSpec (s.a &&& v) s.p with c := (s.a &&& v).msb } } :=
  congrArg (s.setA (s.a &&& v)).setP (anc_eq (s.a &&& v) s.p)

theorem alrEffect_eq :
    alrEffect v s = { s with
      a := (shiftSpec .LSR (s.a &&& v) s.p).1,
      p := znSpec (shiftSpec .LSR (s.a &&& v) s.p).1 (shiftSpec .LSR (s.a &&& v) s.p).2 } := by
  rw [← lsrBits_eq, ← setZn_eq]
  rfl

/-- ARR takes C and V from the result, not from the bit shifted out (R282). -/
theorem arrEffect_eq :
    arrEffect v s = { s with
      a := (shiftSpec .ROR (s.a &&& v) s.p).1,
      p := { znSpec (shiftSpec .ROR (s.a &&& v) s.p).1 s.p with
             c := (shiftSpec .ROR (s.a &&& v) s.p).1.getLsbD 6,
             v := (shiftSpec .ROR (s.a &&& v) s.p).1.getLsbD 6 ^^
                  (shiftSpec .ROR (s.a &&& v) s.p).1.getLsbD 5 } } := by
  simp only [arrEffect, arrBits_eq, State.setA, State.setP]

theorem axsEffect_eq :
    axsEffect v s =
      { s with x := (s.a &&& s.x) - v, p := compareSpec (s.a &&& s.x) v s.p } :=
  congrArg (s.setX ((s.a &&& s.x) - v)).setP (compare_eq (s.a &&& s.x) v s.p)

end CombinedEffects

end Sys2Proof.Machine

namespace Sys2Proof

open Machine

/-- Settles O22: the law of the read-modify-write kind, with the byte each operation stores and what it
leaves in `A` and the flags. -/
theorem combinedRmwResults : Obligations.CombinedRmwResults := fun i s =>
  ⟨fun h => exec_rmw i s (kind_of i h) _ fun _ _ _ => by
      simp only [modifyFn, h, sloFn_eq],
    fun h => exec_rmw i s (kind_of i h) _ fun _ _ _ => by
      simp only [modifyFn, h, rlaFn_eq],
    fun h => exec_rmw i s (kind_of i h) _ fun _ _ _ => by
      simp only [modifyFn, h, sreFn_eq],
    fun h => exec_rmw i s (kind_of i h) _ fun _ _ _ => by
      simp only [modifyFn, h, rraFn_eq],
    fun h => exec_rmw i s (kind_of i h) _ fun _ _ _ => by
      simp only [modifyFn, h, dcpFn_eq],
    fun h => exec_rmw i s (kind_of i h) _ fun _ _ _ => by
      simp only [modifyFn, h, isbFn_eq]⟩

/-- Settles O23: the law of the read kind, with the effect of each operation. -/
theorem combinedImmediateResults : Obligations.CombinedImmediateResults := fun i s =>
  ⟨fun h => exec_readsThen i s (kind_of i h) _ fun _ _ _ => by
      simp only [readEffect, h, ancEffect_eq],
    fun h => exec_readsThen i s (kind_of i h) _ fun _ _ _ => by
      simp only [readEffect, h, alrEffect_eq],
    fun h => exec_readsThen i s (kind_of i h) _ fun _ _ _ => by
      simp only [readEffect, h, arrEffect_eq],
    fun h => exec_readsThen i s (kind_of i h) _ fun _ _ _ => by
      simp only [readEffect, h, axsEffect_eq]⟩

/-- Settles O26: a jam opcode is of the implied kind, and its routine writes `corrupted` alone. -/
theorem jamResult : Obligations.JamResult := fun i s h =>
  exec_implied i s _ (kind_of i h) fun _ _ => by
    rw [h]
    rfl

end Sys2Proof

/-! SUPPORT. Proofs of the statements of 60_exceptions.md: the invariant of the step and where it stops,
the interrupt sequence and its latches, the PPU port, and DMA. -/

namespace Sys2Proof.Machine

/-! ## The invariant of the bus (60_exceptions.md R313) -/

/-- The interrupt latches are copies of the lines, and no IRQ is runnable without a source. -/
def Bus.Latched (b : Bus) : Prop :=
  b.irq = b.irqLines ∧ b.nmiLinePrev = b.nmiLine ∧ (b.runIrq = true → anyIrq b.irq = true)

/-- What `StateInv` says of a state, as a property of its bus. -/
def Bus.Inv (b : Bus) : Prop :=
  Memory.wf b.mem = true ∧ b.cycle = b.trace.length ∧ b.Latched

theorem stateInv_iff (s : State) : StateInv s ↔ s.bus.Inv := Iff.rfl

/-- The end of a cycle puts the latches right, whatever they were before it. -/
theorem Sampled.latched {i : Bool} {b b' : Bus} (h : Sampled i b b') : b'.Latched := by
  obtain ⟨-, -, hline, hirq, -, -, hrun⟩ := h
  refine ⟨hirq, hline, fun hr => ?_⟩
  rw [hrun, Bool.and_eq_true] at hr
  exact hr.1

section Cycles
variable {b : Bus} (hm : Memory.wf b.mem = true) (hc : b.cycle = b.trace.length) (i : Bool)
include hm hc

theorem inv_readCycle (addr : Word) : (b.readCycle i addr).2.Inv :=
  ⟨by simpa using hm, by simpa using hc, (sampled_readCycle i addr b).latched⟩

theorem inv_writeCycle (addr : Word) (v : Byte) : (b.writeCycle i addr v).Inv :=
  ⟨busWrite_wf addr v _ (by simpa using hm), by simpa using hc,
    (sampled_writeCycle i addr v b).latched⟩

theorem inv_idleCycle : (b.idleCycle i).Inv :=
  ⟨by simpa using hm, by simpa using hc, (sampled_idleCycle i b).latched⟩

end Cycles

/-- Every cycle keeps the invariant, and so do the changes a run makes between cycles. -/
theorem BusRun.inv {W : Word → Prop} {b c : Bus} (h : BusRun W b c) (hb : b.Inv) : c.Inv := by
  refine h.preserves (P := Bus.Inv) hb ?_ ?_ ?_ ?_ ?_
  · exact fun _ i addr ⟨hm, hc, _⟩ => inv_readCycle hm hc i addr
  · exact fun _ i addr v _ ⟨hm, hc, _⟩ => inv_writeCycle hm hc i addr v
  · exact fun _ i ⟨hm, hc, _⟩ => inv_idleCycle hm hc i
  · exact fun _ _ _ _ _ _ hd => hd
  · intro d nmi prevNmi keep ⟨hm, hc, hirq, hline, hrun⟩
    exact ⟨hm, hc, hirq, hline, fun hr => hrun (Bool.and_eq_true _ _ ▸ hr).1⟩

/-- A reset clears the latches without a look at the lines; the first of its seven cycles samples
them. -/
theorem inv_resetCommon {s : State} (h : Memory.wf s.bus.mem = true) : (resetCommon s).bus.Inv := by
  have hv := vectorRead_frame 0xFFFC#16 s.bus.resetLatches
  have hfirst : ((vectorRead 0xFFFC#16 s.bus.resetLatches).2.idleCycle s.p.i).Inv := by
    rw [hv]
    exact inv_idleCycle (b := { s.bus.resetLatches with ppu := _, draws := _ }) h rfl s.p.i
  exact (idleCycles_run s.p.i 6 _).inv hfirst

theorem inv_applyReset (k : ResetKind) {s : State} (h : Memory.wf s.bus.mem = true) :
    (applyReset k s).bus.Inv := by
  cases k with
  | hard => exact inv_resetCommon (Memory.wf_filter _ h)
  | soft => exact inv_resetCommon h

/-! ## Where a step stops (60_exceptions.md R329) -/

theorem jammed_eq_true {s : State} :
    s.jammed = true ↔ s.corrupted = true ∧ s.params.stepWhenCorrupted = .refuse := by
  simp [State.jammed]

/-- A jammed machine has no transition, unless a reset is asked for. -/
theorem step_jammed {s : State} (h1 : s.resetReq = none) (h2 : s.jammed = true) :
    step s = .fault .jammed := by
  unfold step
  rw [h1]
  exact if_pos h2

end Sys2Proof.Machine

namespace Sys2Proof

open Machine

/-- Settles O55, by the two cases of a step: a reset establishes the invariant; the fetch, the
instruction and the instruction-end check are runs, which keep it. -/
theorem stepKeepsInv : Obligations.StepKeepsInv := by
  intro s t hs h
  rw [stateInv_iff] at hs ⊢
  obtain ⟨k, -, rfl⟩ | ⟨-, -, u, hu, rfl⟩ := step_cases h
  · exact inv_applyReset k hs.1
  · obtain ⟨-, -, -, hfetch⟩ := ran_fetchInstr s
    obtain ⟨u', hu', -, -, -, hexec⟩ := exec_ran (fetchInstr s).1 (fetchInstr s).2
    obtain rfl : u = u' := by simpa [hu] using hu'
    obtain ⟨-, -, -, hend⟩ := ran_instructionEnd u
    exact ((hfetch.trans hexec).trans hend).inv hs

/-- Settles O7: `exec` is total by `exec_table`, so a step with no reset asked for stops exactly where
`jammed` holds. -/
theorem stopsOnlyWhenJammed : Obligations.StopsOnlyWhenJammed := by
  refine ⟨fun i s => ⟨_, exec_table i s⟩, fun s => ⟨?_, fun h => ?_⟩⟩
  · rintro ⟨hreset, hjam⟩
    exact step_jammed hreset (jammed_eq_true.2 hjam)
  · cases hreset : s.resetReq with
    | some k => exact ⟨_, step_reset hreset⟩
    | none =>
      have hjam : s.jammed = false := by
        rw [Bool.eq_false_iff, Ne, jammed_eq_true]
        exact fun hj => h ⟨hreset, hj⟩
      exact ⟨_, step_eq hreset hjam⟩

end Sys2Proof

namespace Sys2Proof.Machine

/-! ## The entry of an interrupt (60_exceptions.md R315 to R319) -/

/-- Two CPU reads in a row, sampled with one value of I. -/
theorem reads2_cycleRun (i : Bool) (addr addr' : Word) (b : Bus) :
    CycleRun i b ((b.read i addr).2.read i addr').2 :=
  (read_cycleRun i addr b).trans (read_cycleRun i addr' _)

/-- What a read must yield after a run without writes to memory, it must yield before it. -/
theorem MustRead.of_run {s u : State} {addr : Word} {v : Byte} (h : MustRead u addr v)
    (hrun : BusRun DmaWrites s.bus u.bus) : MustRead s addr v := by
  have hmem : u.bus.mem = s.bus.mem := hrun.mem_eq dmaWrites_memKey
  have hshown : u.shown addr = s.shown addr := by simp only [State.shown, State.ram, hmem]
  rintro (hram | ⟨hcart, hplain, hwindow⟩)
  · exact (h (.inl hram)).trans hshown
  · obtain ⟨hplain', hwindows⟩ := hrun.plain hplain
    exact (h (.inr ⟨hcart, hplain', hwindows ▸ hwindow⟩)).trans hshown

theorem VectorFetched.of_run {s u t : State} {vec : Word} {l h : Byte}
    (hv : VectorFetched u t vec l h) (hrun : BusRun DmaWrites s.bus u.bus) :
    VectorFetched s t vec l h :=
  ⟨hv.1, hv.2.1.of_run hrun, hv.2.2.of_run hrun⟩

/-- What is pushed shows only in memory and depends only on the stack pointer. -/
theorem Pushed.of_eq {s u t : State} {vs : List Byte} (h : Pushed u t vs)
    (hmem : u.bus.mem = s.bus.mem) (hsp : u.sp = s.sp) : Pushed s t vs := by
  intro k
  rw [h k, hmem, hsp]

/-- In the byte that an interrupt pushes U is set and B is clear already. -/
theorem pushByte_false_eq_toByte (p : Flags) : p.pushByte false = p.toByte := by
  obtain ⟨c, z, i, d, v, n⟩ := p
  revert c z i d v n
  decide

/-- What the sequence leaves on the stack, and where. -/
theorem interrupt_pushed (s : State) :
    Pushed s (interrupt s) [hi s.pc, lo s.pc, s.p.toByte] ∧ (interrupt s).sp = s.sp - 3 := by
  obtain ⟨l, h, b, hentry, hpush, -⟩ := interrupt_spec s
  rw [hentry, ← pushByte_false_eq_toByte]
  exact ⟨hpush, rfl⟩

/-- The byte pushed third lies two below the old stack pointer. -/
theorem Pushed.ram_third {s t : State} {v w x : Byte} {vs : List Byte}
    (h : Pushed s t (v :: w :: x :: vs)) : t.ram (stackAddr (s.sp - 2)) = x := by
  have h2 : s.sp - 1 - 1 = s.sp - 2 := by bv_omega
  have hne0 : stackKey (s.sp - 2) ≠ stackKey s.sp := fun hk => by
    have := stackKey_inj hk
    bv_omega
  have hne1 : stackKey (s.sp - 2) ≠ stackKey (s.sp - 1) := fun hk => by
    have := stackKey_inj hk
    bv_omega
  rw [ram_stackAddr, h, pushedByte, if_neg hne0, pushedByte, if_neg hne1, h2, pushedByte, if_pos rfl]

/-! ## The NMI latch through an entry (60_exceptions.md R316, R325) -/

/-- A latch that is set when the pushes begin is set when the vector is chosen. -/
theorem choiceBus_nmi_grows {s : State} (h : s.bus.nmi = true) : (choiceBus s).nmi = true := by
  rw [choiceBus, (sampled_writeCycle _ _ _ _).2.1, (sampled_writeCycle _ _ _ _).2.1, h]
  rfl

theorem entryVec_of_nmi {s : State} (h : s.bus.nmi = true) : entryVec s = 0xFFFA#16 := by
  rw [entryVec, choiceBus_nmi_grows h]
  rfl

/-- Where no NMI is pending and none can come, the entry takes the other vector. -/
theorem entryVec_of_nmiQuiet {s : State} (h : s.bus.nmiQuiet) : entryVec s = 0xFFFE#16 := by
  have hq : (choiceBus s).nmiQuiet := nmiQuiet_write _ _ _ (nmiQuiet_write _ _ _ h)
  rw [entryVec, hq.1]
  rfl

/-- A push writes no register of the PPU. -/
theorem levelQuiet_push (i : Bool) (sp v : Byte) {b : Bus} (h : LevelQuiet b) :
    LevelQuiet (b.writeCycle i (stackAddr sp) v) ∧ (b.writeCycle i (stackAddr sp) v).nmi = b.nmi :=
  levelQuiet_write i v h (by simp [busTarget_ram (stackAddr_ram sp)])

/-- The entry clears the latch, and without a new rise of the line it stays clear. -/
theorem takeException_nmi (brk : Bool) {s : State} (h : LevelQuiet s.bus) :
    (takeException brk s).bus.nmi = false := by
  have hchoice : LevelQuiet { choiceBus s with nmi := false } :=
    (levelQuiet_push s.p.i _ _ (levelQuiet_push s.p.i _ _ h).1).1
  obtain ⟨hquiet, hclear⟩ := levelQuiet_push s.p.i (s.sp - 1 - 1) (s.p.pushByte brk) hchoice
  rw [takeException_eq]
  exact ((reads2_cycleRun true _ _ _).levelQuiet hquiet).2.trans hclear

/-! ## The IRQ shadow after an entry and a return (60_exceptions.md R320, R323) -/

/-- The vector is read with I set, so the shadow is clear after it. -/
theorem takeException_prevRunIrq (brk : Bool) (s : State) :
    (takeException brk s).bus.prevRunIrq = false := by
  rw [takeException_eq]
  exact read_prevRunIrq_masked _ (read_runIrq_masked _ _)

/-- The flags that a return pulls are in force for its last two reads: with I pulled clear and an IRQ
held the shadow is set after them. -/
theorem returnFromException_prevRunIrq {s : State}
    (hi : (s.ram (stackAddr (s.sp + 1))).getLsbD 2 = false) (h : s.bus.irqHeld) :
    (returnFromException s).bus.prevRunIrq = true := by
  have hpulled : (Flags.ofByte (pull s).1).i = false := by rw [pull_eq]; exact hi
  have hheld : (pull s).2.bus.irqHeld := (read_cycleRun _ _ _).irqHeld h
  generalize hb : pull s = r at hpulled hheld
  have hshadow : ∀ a a', ((r.2.bus.read false a).2.read false a').2.prevRunIrq = true := fun a a' =>
    read_prevRunIrq_held a' ((read_cycleRun _ a _).irqHeld hheld) (read_runIrq_held a hheld)
  rw [← hpulled] at hshadow
  rw [returnFromException, hb]
  exact hshadow _ _

/-! ## A step over a one-byte instruction in Implied mode -/

/-- The step fetches the byte, makes the mode's dummy read, and runs the operation. -/
theorem step_implied {i : Instr} {op : State → State} {s : State} (hreset : s.resetReq = none)
    (hjam : s.jammed = false) (hbytes : BytesAt s s.pc (encode i))
    (hsize : (table i.opcode).mode.operandBytes = 0)
    (hexec : ∀ s, exec i s = .next (op (modeImp s))) :
    ∃ l, step s = .next (instructionEnd (op { s with
      pc := s.pc + 1
      latches := l
      bus := ((s.bus.read s.p.i s.pc).2.read s.p.i (s.pc + 1)).2 })) := by
  have hfetch := fetchInstr_single s i hbytes hsize
  have hstep := step_of_exec hreset hjam (t := op (modeImp (fetchInstr s).2))
    (by rw [hfetch]; exact hexec _)
  rw [hfetch] at hstep
  exact ⟨_, hstep⟩

/-! ## The taken branch and the IRQ shadow (60_exceptions.md R322) -/

/-- What a read without DMA does to the IRQ latches: it is one cycle, and samples once. -/
theorem read_runIrq_noDma (i : Bool) (addr : Word) {b : Bus} (h : b.noDma) :
    (b.read i addr).2.runIrq = (anyIrq (nextIrqLines b) && !i) ∧
    (b.read i addr).2.prevRunIrq = b.runIrq := by
  obtain ⟨-, -, -, hmask, hlines, hprev, hrun⟩ := sampled_readCycle i addr b
  rw [(noDma_read i addr h).1]
  exact ⟨by rw [hrun, hmask, hlines], hprev⟩

/-- A taken branch drops an IRQ that became runnable in the cycle before its first read; the read's own
sampling is what the second read, where there is one, leaves in the shadow. -/
theorem branch_prevRunIrq (cond : Flags → Bool) {s : State} (h : s.bus.noDma) :
    (branch cond s).bus.prevRunIrq =
      if cond s.p then
        if hi (s.pc + sext16 s.latches.relAddr) ≠ hi s.pc then
          anyIrq (nextIrqLines s.bus) && !s.p.i
        else s.bus.runIrq && s.bus.prevRunIrq
      else s.bus.prevRunIrq := by
  have hquirk : (branchQuirk s).bus.noDma := h
  obtain ⟨hrun, hprev⟩ := read_runIrq_noDma s.p.i s.pc hquirk
  obtain ⟨-, hquiet⟩ := made_read s.p.i s.pc hquirk
  have hpc : (dummyRead s.pc (branchQuirk s)).pc = s.pc := rfl
  have hrel : (dummyRead s.pc (branchQuirk s)).latches = s.latches := rfl
  simp only [branch, hpc, hrel]
  split
  · split
    · exact (read_runIrq_noDma s.p.i s.pc hquiet).2.trans hrun
    · exact hprev
  · rfl

end Sys2Proof.Machine

namespace Sys2Proof

open Machine

/-- Settles O36, by the law of the sequence. -/
theorem interruptEntry : Obligations.InterruptEntry := by
  intro s
  obtain ⟨l, h, b, hentry, hpush, hvec⟩ := interrupt_spec s
  refine ⟨l, h, _, rfl, ?_, ?_, ?_⟩ <;> rw [hentry]
  · exact hpush
  · exact hvec

/-- Settles O37: cycles only set the latch until the vector is chosen; then it is cleared, and a line
without a new rise leaves it so. -/
theorem nmiTakenOnce : Obligations.NmiTakenOnce := by
  intro s hnmi
  have hreads := reads2_cycleRun s.p.i s.pc s.pc s.bus
  obtain ⟨l, h, b, hentry, -, hvec⟩ := interrupt_spec s
  rw [entryVec_of_nmi (hreads.nmi_grows hnmi)] at hvec
  refine ⟨⟨l, h, by rw [hentry], by rw [hentry]; exact hvec⟩, fun hline hppu => ?_⟩
  have hlevel : LevelQuiet s.bus := ⟨fun hl => hline.trans hl, hppu⟩
  rw [interrupt_eq]
  exact takeException_nmi false (hreads.levelQuiet hlevel).1

/-- Settles O38: the three pulls find the three bytes that the entry pushed. -/
theorem rtiAfterInterrupt : Obligations.RtiAfterInterrupt := by
  intro s a x y pc' p
  obtain ⟨hpush, hsp⟩ := interrupt_pushed s
  obtain ⟨u, hu, -, hr⟩ := exec_rti { interrupt s with a := a, x := x, y := y, pc := pc', p := p }
  have h1 : (interrupt s).sp + 1 = s.sp - 2 := by bv_omega
  have h2 : (interrupt s).sp + 2 = s.sp - 1 := by bv_omega
  have h3 : (interrupt s).sp + 3 = s.sp := by bv_omega
  have hp : (interrupt s).ram (stackAddr ((interrupt s).sp + 1)) = s.p.toByte := by
    rw [h1, hpush.ram_third]
  have hlo : (interrupt s).ram (stackAddr ((interrupt s).sp + 2)) = lo s.pc := by
    rw [h2, hpush.ram_second]
  have hhi : (interrupt s).ram (stackAddr ((interrupt s).sp + 3)) = hi s.pc := by
    rw [h3, hpush.ram_first]
  refine ⟨u, hu, ?_, ?_, ?_, ?_, ?_, ?_⟩ <;> rw [hr]
  · exact (congrArg₂ mk16 hhi hlo).trans (mk16_hi_lo s.pc)
  · exact (congrArg Flags.ofByte hp).trans (ofByte_toByte s.p)
  · exact h3

/-- Settles O39: neither shadow is set after a BRK. -/
theorem noInterruptAfterBrk : Obligations.NoInterruptAfterBrk := by
  intro pad s
  have hirq := takeException_prevRunIrq true (modeImm pad s)
  exact ⟨brkOp (modeImm pad s), rfl, rfl, hirq, instructionEnd_none hirq rfl⟩

/-- Settles O40: both reads of the step are made with I set, so no IRQ is runnable at the check. -/
theorem cliDefersIrq : Obligations.CliDefersIrq := by
  intro s hreset hjam hbytes hset hquiet
  obtain ⟨l, hstep⟩ := step_implied (i := .cli) hreset hjam hbytes rfl fun _ => rfl
  rw [hset, instructionEnd_none (read_prevRunIrq_masked _ (read_runIrq_masked _ _))
    (read_prevNmi_quiet true _ ((read_cycleRun _ _ _).nmiQuiet hquiet))] at hstep
  exact ⟨_, hstep, (read_mem _ _ _).trans (read_mem _ _ _), rfl⟩

/-- Settles O41: both reads of the step are made with I clear, so the IRQ is runnable at the check; the
entry then pushes the flags as SEI left them. -/
theorem seiStillTakesIrq : Obligations.SeiStillTakesIrq := by
  intro s hreset hjam hbytes hclear hquiet hheld
  obtain ⟨l, hstep⟩ := step_implied (i := .sei) hreset hjam hbytes rfl fun _ => rfl
  generalize hu : seiOp _ = u at hstep
  have hbus : u.bus = ((s.bus.read false s.pc).2.read false (s.pc + 1)).2 := by rw [← hu, hclear]; rfl
  have hrun : BusRun DmaWrites s.bus u.bus := hbus ▸ read_runs (read_run _ _ _) _ _
  have hquiet' : u.bus.nmiQuiet := hbus ▸ (reads2_cycleRun _ _ _ _).nmiQuiet hquiet
  have hirq : u.bus.prevRunIrq = true := by
    rw [hbus]
    exact read_prevRunIrq_held _ ((read_cycleRun _ _ _).irqHeld hheld) (read_runIrq_held _ hheld)
  obtain ⟨l', h', b, hentry, hpush, hvec⟩ := interrupt_spec u
  rw [entryVec_of_nmiQuiet ((reads2_cycleRun _ _ _ _).nmiQuiet hquiet')] at hvec
  rw [pushByte_false_eq_toByte] at hpush
  rw [instructionEnd_irq hirq, hentry] at hstep
  have hpushed : Pushed s { u with bus := b } [hi u.pc, lo u.pc, u.p.toByte] :=
    Pushed.of_eq hpush (hrun.mem_eq dmaWrites_memKey) (by rw [← hu]; rfl)
  subst hu
  exact ⟨l', h', _, hstep, hpushed, rfl, hvec.of_run hrun⟩

/-- Settles O42: PLP makes its reads with the old I, RTI its last two with the new one. -/
theorem pullLatency : Obligations.PullLatency := by
  refine fun s => ⟨fun hi => ⟨plpOp (modeImp s), rfl, ?_⟩,
    fun hi hheld => ⟨rtiOp (modeImp s), rfl, ?_⟩⟩
  · have hshadow := fun a a' b => read_prevRunIrq_masked a' (read_runIrq_masked a b)
    rw [← hi] at hshadow
    exact hshadow _ _ _
  · refine returnFromException_prevRunIrq ?_ ?_
    · rw [dummyStackRead_modeImp_ram]
      exact hi
    · exact (reads2_cycleRun _ _ _ _).irqHeld hheld

/-- Settles O43: the mode makes no cycle, so the branch begins with the latches as they were. -/
theorem branchQuirk : Obligations.BranchQuirk := by
  intro i s hk hdma
  have hmode := entry_mode_of_branch hk
  obtain ⟨l, b, hrun, -, ⟨-, -, hrel, -, -⟩, hsilent⟩ := modeRun_spec i s
  obtain rfl := hsilent (by simp [hmode, silentModes])
  have hshadow := branch_prevRunIrq (branchTaken i.entry.operation) (s := { s with latches := l }) hdma
  rw [hrel hmode] at hshadow
  have hexec := exec_table i s
  rw [hrun] at hexec
  simp only [opRun, hk] at hexec
  exact ⟨_, hexec, hshadow⟩

/-- Settles O35: each kind of cycle ends with the sampling. -/
theorem everyCycleSamples : Obligations.EveryCycleSamples := fun i addr v b =>
  ⟨sampled_readCycle i addr b, sampled_writeCycle i addr v b, sampled_idleCycle i b⟩

end Sys2Proof

namespace Sys2Proof.Machine

/-! ## Device cycles (20_memory.md R64, R65, 60_exceptions.md R330, R346, R347) -/

/-- A PPU register answers at all its mirrors. -/
theorem busRead_ppuMirror {addr : Word} (h1 : 0x2000 ≤ addr.toNat) (h2 : addr.toNat < 0x4000)
    (b : Bus) : busRead addr b = ppuRead (addr.toNat % 8) b := by
  have h : busTarget addr = .ppu (addr.toNat % 8) := by
    simp [busTarget, Nat.not_lt.2 h1, h2]
  rw [busRead, h]

/-- The NMI latch after a cycle that ends with the line low. -/
theorem Sampled.nmi_of_line_low {i : Bool} {b b' : Bus} (h : Sampled i b b')
    (hline : b'.nmiLine = false) : b'.nmi = b.nmi := by
  obtain ⟨-, hnmi, -⟩ := h
  rw [hnmi, hline]
  simp

section PpuRead
variable {b : Bus} {v : Byte} (hv : b.dataIn = some v)
include hv

theorem envByte_driven : envByte b = (v, b) := by rw [envByte, hv]

/-- The data port below the palette: the buffer answers, and takes the driven byte. -/
theorem ppuRead_data_buffered (ha : b.ppu.vramAddr.toNat < 0x3F00) :
    ppuRead 7 b = (b.ppu.readBuffer, { b with ppu := { b.ppu with readBuffer := v } }) := by
  simp only [ppuRead, envByte_driven hv, if_pos ha]

/-- The data port at a palette address: the driven byte answers at once. -/
theorem ppuRead_data_palette (ha : 0x3F00 ≤ b.ppu.vramAddr.toNat) : (ppuRead 7 b).1 = v := by
  simp only [ppuRead, envByte_driven hv, if_neg (Nat.not_lt.2 ha)]

end PpuRead

/-- A write to 0x4014 is the only one that touches the OAM DMA registers. -/
theorem busWrite_oamDma {addr : Word} (h : addr ≠ 0x4014#16) (v : Byte) (b : Bus) :
    (busWrite addr v b).oamDma = b.oamDma ∧ (busWrite addr v b).oamDmaPage = b.oamDmaPage := by
  unfold busWrite ppuWrite
  split
  case h_2 => split <;> [split; skip] <;> exact ⟨rfl, rfl⟩
  case h_3 => rw [if_neg h]; exact ⟨rfl, rfl⟩
  case h_5 => split <;> exact ⟨rfl, rfl⟩
  all_goals exact ⟨rfl, rfl⟩

theorem writeCycle_oamDma (i : Bool) {addr : Word} (h : addr ≠ 0x4014#16) (v : Byte) (b : Bus) :
    (b.writeCycle i addr v).oamDma = b.oamDma ∧
    (b.writeCycle i addr v).oamDmaPage = b.oamDmaPage := by
  obtain ⟨hdma, hpage⟩ := busWrite_oamDma h v (beginCycle b)
  exact ⟨hdma.trans (beginCycle_oamDma b), hpage.trans (beginCycle_oamDmaPage b)⟩

end Sys2Proof.Machine

namespace Sys2Proof

open Machine

/-- Settles O46: the cycle's read is that of the register, and the sampling at its end sees the line
that the read left. -/
theorem ppuPortReads : Obligations.PpuPortReads := by
  intro i addr b h1 h2
  have hread := busRead_ppuMirror h1 h2 (beginCycle b)
  have hval : (b.readCycle i addr).1 = (ppuRead (addr.toNat % 8) (beginCycle b)).1 := by
    rw [← hread]
    rfl
  have hppu : (b.readCycle i addr).2.ppu = (ppuRead (addr.toNat % 8) (beginCycle b)).2.ppu := by
    rw [← hread]
    rfl
  refine ⟨fun hreg => ?_, fun hreg v hv => ⟨fun ha => ?_, fun ha => ?_⟩⟩ <;>
    rw [hreg] at hval hppu
  · have hvblank : (b.readCycle i addr).2.ppu.vblank = false := by rw [hppu]; rfl
    have hline : (b.readCycle i addr).2.nmiLine = false := nmiLine_quiet hvblank
    exact ⟨hvblank, by rw [hppu]; rfl, hline, (sampled_readCycle i addr b).nmi_of_line_low hline⟩
  · rw [hval, hppu, ppuRead_data_buffered hv ha]
    exact ⟨rfl, rfl⟩
  · rw [hval, ppuRead_data_palette hv ha]

/-- Settles O47: at 0x4014 the bus map sets the request and its page; no device address names a memory
byte. -/
theorem oamDmaRequest : Obligations.OamDmaRequest := by
  intro i addr v b
  refine ⟨rfl, rfl, fun h => writeCycle_oamDma i h v b, fun h1 h2 => ?_⟩
  rw [writeCycle_mem, busWrite_mem_of_memKey_none (memKey_device h1 h2), beginCycle_mem]

end Sys2Proof

namespace Sys2Proof.Machine

/-! ## One cycle of the DMA unit (60_exceptions.md R332) -/

section DmaPayDebt
variable (b : Bus)

@[simp] theorem dmaPayDebt_cycle : (dmaPayDebt b).cycle = b.cycle := by rw [dmaPayDebt_frame]
@[simp] theorem dmaPayDebt_oamDma : (dmaPayDebt b).oamDma = b.oamDma := by rw [dmaPayDebt_frame]
@[simp] theorem dmaPayDebt_oamDmaPage : (dmaPayDebt b).oamDmaPage = b.oamDmaPage := by
  rw [dmaPayDebt_frame]
@[simp] theorem dmaPayDebt_dmcDma : (dmaPayDebt b).dmcDma = b.dmcDma := by rw [dmaPayDebt_frame]
@[simp] theorem dmaPayDebt_inputs : (dmaPayDebt b).inputs = b.inputs := by rw [dmaPayDebt_frame]
@[simp] theorem dmaPayDebt_trace : (dmaPayDebt b).trace = b.trace := by rw [dmaPayDebt_frame]

end DmaPayDebt

/-- From `b` to `c` in one cycle that leaves the OAM DMA registers, and the DMC DMA's flags too where no
request comes. -/
structure UnitCycle (b c : Bus) : Prop where
  cycle  : c.cycle = b.cycle + 1
  inputs : c.inputs = b.inputs.tail
  oam    : c.oamDma = b.oamDma
  page   : c.oamDmaPage = b.oamDmaPage
  dmc    : (∀ inp ∈ b.inputs, inp.dmcReq = none) →
    c.halt = b.halt ∧ c.dmcDma = b.dmcDma ∧ c.dummyRead = b.dummyRead

theorem unitCycle_read (i : Bool) (addr : Word) (b : Bus) : UnitCycle b (b.readCycle i addr).2 where
  cycle := readCycle_cycle i addr b
  inputs := readCycle_inputs i addr b
  oam := readCycle_oamDma i addr b
  page := readCycle_oamDmaPage i addr b
  dmc h := by
    obtain ⟨hhalt, hdmc, hdummy, -⟩ := readCycle_dma i addr h
    exact ⟨hhalt, hdmc, hdummy⟩

theorem unitCycle_write (i : Bool) (v : Byte) (b : Bus) :
    UnitCycle b (b.writeCycle i 0x2004#16 v) where
  cycle := writeCycle_cycle i _ v b
  inputs := writeCycle_inputs i _ v b
  oam := (writeCycle_oamDma i (by decide) v b).1
  page := (writeCycle_oamDma i (by decide) v b).2
  dmc h := by
    obtain ⟨hhalt, hdmc, hdummy, -⟩ := writeCycle_dma i 0x2004#16 v h
    exact ⟨hhalt, hdmc, hdummy⟩

theorem unitCycle_idle (i : Bool) (b : Bus) : UnitCycle b (b.idleCycle i) where
  cycle := idleCycle_cycle i b
  inputs := idleCycle_inputs i b
  oam := idleCycle_oamDma i b
  page := beginCycle_oamDmaPage b
  dmc h := by
    obtain ⟨hhalt, hdmc, hdummy, -⟩ := idleCycle_dma i h
    exact ⟨hhalt, hdmc, hdummy⟩

theorem unitCycle_wait (i skip : Bool) (addr : Word) (b : Bus) :
    UnitCycle b (dmaWait i skip addr b) := by
  unfold dmaWait
  split
  · exact unitCycle_idle i b
  · exact unitCycle_read i addr b

/-! ## The DMA loop ends -/

/-- The halt and dummy cycles still owed. -/
def dmaDebt (b : Bus) : Nat := b.halt.toNat + b.dummyRead.toNat

theorem dmaDebt_dmaPayDebt (b : Bus) : dmaDebt (dmaPayDebt b) = dmaDebt b - 1 := by
  unfold dmaPayDebt dmaDebt
  cases hh : b.halt <;> cases hd : b.dummyRead <;> simp [hh, hd]

/-- Between iterations: an OAM DMA that has read a byte and not written it stands at a write cycle, and
one that has made its 512 cycles has ended. -/
structure DmaAligned (n : Nat) (b : Bus) : Prop where
  write : n % 2 = 1 → b.oamDma = true ∧ b.cycle % 2 = 1
  going : b.oamDma = true → n < 512

/-- A bound on the cycles the loop still takes if no request comes: the rest of the OAM DMA, two for the
DMC DMA's read and for each cycle it owes (the cycle itself, and an OAM DMA's realignment), and one for
an alignment cycle that is due now. -/
def dmaLeft (n : Nat) (b : Bus) : Nat :=
  (if b.oamDma then 512 - n else 0) + 2 * b.dmcDma.toNat + 2 * dmaDebt b + (b.cycle + n) % 2

theorem dmaLeft_le (n : Nat) (b : Bus) : dmaLeft n b ≤ 519 := by
  have h1 := Bool.toNat_le b.dmcDma
  have h2 := Bool.toNat_le b.halt
  have h3 := Bool.toNat_le b.dummyRead
  unfold dmaLeft dmaDebt
  split <;> omega

/-- Iterations that are enough: one for each input still to come, and what can be left after them. -/
def dmaBudget (n : Nat) (b : Bus) : Nat :=
  match b.inputs with
  | [] => dmaLeft n b
  | _ :: rest => rest.length + 520

theorem dmaBudget_of_inputs_nil {n : Nat} {b : Bus} (h : b.inputs = []) :
    dmaBudget n b = dmaLeft n b := by
  rw [dmaBudget, h]

theorem dmaBudget_le (n : Nat) (b : Bus) : dmaBudget n b ≤ b.inputs.length + 519 := by
  have hle := dmaLeft_le n b
  cases h : b.inputs with
  | nil => rw [dmaBudget_of_inputs_nil h]; simpa using hle
  | cons inp rest => rw [dmaBudget, h]; simp only [List.length_cons]; omega

/-- A cycle uses an input up, or else what is left goes down. -/
theorem dmaBudget_lt {n n' : Nat} {b c : Bus} (hin : c.inputs = b.inputs.tail)
    (hleft : b.inputs = [] → dmaLeft n' c < dmaLeft n b) : dmaBudget n' c < dmaBudget n b := by
  cases h : b.inputs with
  | nil =>
    rw [dmaBudget_of_inputs_nil h, dmaBudget_of_inputs_nil (by rw [hin, h]; rfl)]
    exact hleft h
  | cons inp rest =>
    have hle := dmaBudget_le n' c
    rw [hin, h, List.tail_cons] at hle
    rw [dmaBudget.eq_def n b, h]
    dsimp only
    omega

/-- What one cycle after the payment leaves of the DMC DMA, with no input to come. -/
theorem UnitCycle.debt {b c : Bus} (h : UnitCycle (dmaPayDebt b) c) (hin : b.inputs = []) :
    dmaDebt c = dmaDebt b - 1 ∧ c.dmcDma = b.dmcDma := by
  obtain ⟨hhalt, hdmc, hdummy⟩ := h.dmc (by simp [hin])
  rw [← dmaDebt_dmaPayDebt, dmaDebt, hhalt, hdummy, hdmc]
  exact ⟨rfl, dmaPayDebt_dmcDma b⟩

/-! The four kinds of iteration, each in one cycle after the payment of a debt. -/

section Iterations
variable {n : Nat} {b c : Bus} (h : DmaAligned n b) (hc : UnitCycle (dmaPayDebt b) c)
include h hc

/-- The DMC DMA reads its byte, and an OAM DMA is out of step for one cycle. -/
theorem dmaIteration_dmc (he : b.cycle % 2 = 0) (hd : b.dmcDma = true) (hdebt : dmaDebt b = 0)
    (buffer : Option Byte) :
    DmaAligned n { c with dmcDma := false, dmcBuffer := buffer } ∧
    dmaBudget n { c with dmcDma := false, dmcBuffer := buffer } < dmaBudget n b := by
  have hw := h.write
  have hcycle : c.cycle = b.cycle + 1 := by simpa using hc.cycle
  have hoam : c.oamDma = b.oamDma := by simpa using hc.oam
  refine ⟨⟨fun hn => by omega, fun ho => h.going (hoam ▸ ho)⟩,
    dmaBudget_lt (by simpa using hc.inputs) fun hin => ?_⟩
  have hdebt' : dmaDebt { c with dmcDma := false, dmcBuffer := buffer } = dmaDebt b - 1 :=
    (hc.debt hin).1
  unfold dmaLeft
  rw [hdebt']
  simp only [hcycle, hoam, hd, Bool.toNat_true, Bool.toNat_false]
  omega

/-- The OAM DMA reads a byte. -/
theorem dmaIteration_get (he : b.cycle % 2 = 0) (ho : b.oamDma = true) :
    DmaAligned (n + 1) c ∧ dmaBudget (n + 1) c < dmaBudget n b := by
  have hw := h.write
  have hg := h.going ho
  have hcycle : c.cycle = b.cycle + 1 := by simpa using hc.cycle
  have hoam : c.oamDma = true := by simpa [ho] using hc.oam
  refine ⟨⟨fun _ => ⟨hoam, by omega⟩, fun _ => by omega⟩,
    dmaBudget_lt (by simpa using hc.inputs) fun hin => ?_⟩
  obtain ⟨hdebt, hdmc⟩ := hc.debt hin
  simp only [dmaLeft, hdebt, hdmc, hcycle, hoam, ho, if_true]
  omega

/-- The OAM DMA writes a byte, and ends with the last one. -/
theorem dmaIteration_put (ho : b.oamDma = true) (hn : n % 2 = 1) :
    DmaAligned (n + 1) (if n + 1 = 512 then { c with oamDma := false } else c) ∧
    dmaBudget (n + 1) (if n + 1 = 512 then { c with oamDma := false } else c) < dmaBudget n b := by
  have hg := h.going ho
  obtain ⟨-, hodd⟩ := h.write hn
  have hcycle : c.cycle = b.cycle + 1 := by simpa using hc.cycle
  have hoam : c.oamDma = true := by simpa [ho] using hc.oam
  have hinputs : c.inputs = b.inputs.tail := by simpa using hc.inputs
  split
  · refine ⟨⟨fun _ => by omega, fun ho' => by simp at ho'⟩, dmaBudget_lt hinputs fun hin => ?_⟩
    obtain ⟨hdebt, hdmc⟩ := hc.debt hin
    have hdebt' : dmaDebt { c with oamDma := false } = dmaDebt b - 1 := hdebt
    unfold dmaLeft
    rw [hdebt']
    simp only [hdmc, hcycle, ho, if_true, Bool.false_eq_true, if_false]
    omega
  · refine ⟨⟨fun _ => by omega, fun _ => by omega⟩, dmaBudget_lt hinputs fun hin => ?_⟩
    obtain ⟨hdebt, hdmc⟩ := hc.debt hin
    simp only [dmaLeft, hdebt, hdmc, hcycle, hoam, ho, if_true]
    omega

/-- Neither reads nor writes: a debt is paid, or the next cycle is the one to read in. -/
theorem dmaIteration_wait (hn : n % 2 = 0) (hw : b.cycle % 2 = 1 ∨ 0 < dmaDebt b) :
    DmaAligned n c ∧ dmaBudget n c < dmaBudget n b := by
  have hcycle : c.cycle = b.cycle + 1 := by simpa using hc.cycle
  have hoam : c.oamDma = b.oamDma := by simpa using hc.oam
  refine ⟨⟨fun _ => by omega, fun ho => h.going (hoam ▸ ho)⟩,
    dmaBudget_lt (by simpa using hc.inputs) fun hin => ?_⟩
  obtain ⟨hdebt, hdmc⟩ := hc.debt hin
  simp only [dmaLeft, hdebt, hdmc, hcycle, hoam]
  omega

end Iterations

theorem dmaDebt_eq_zero {b : Bus} : dmaDebt b = 0 ↔ b.halt = false ∧ b.dummyRead = false := by
  simp [dmaDebt]

/-- One iteration keeps the alignment and goes down in the budget. -/
theorem dmaLoop_step {n : Nat} {b : Bus} (h : DmaAligned n b) (hp : (b.oamDma || b.dmcDma) = true)
    (i skip : Bool) (addr : Word) (fuel : Nat) (idx latch : Byte) :
    ∃ idx' n' latch' c, dmaLoop i skip addr (fuel + 1) idx n latch b =
        dmaLoop i skip addr fuel idx' n' latch' c ∧
      DmaAligned n' c ∧ dmaBudget n' c < dmaBudget n b := by
  have hw := h.write
  simp only [dmaLoop, if_pos hp]
  split
  case isTrue he =>
    split
    case isTrue hready =>
      simp only [Bool.and_eq_true, Bool.not_eq_true'] at hready
      obtain ⟨⟨hd, hhalt⟩, hdummy⟩ := hready
      exact ⟨_, _, _, _, rfl, dmaIteration_dmc h (unitCycle_read i _ _) he hd
        (dmaDebt_eq_zero.2 ⟨hhalt, hdummy⟩) _⟩
    case isFalse hready =>
      split
      case isTrue ho => exact ⟨_, _, _, _, rfl, dmaIteration_get h (unitCycle_read i _ _) he ho⟩
      case isFalse ho =>
        have hd : b.dmcDma = true := by simpa [ho] using hp
        have hdebt : dmaDebt b ≠ 0 := fun h0 => hready (by simp [hd, dmaDebt_eq_zero.1 h0])
        exact ⟨_, _, _, _, rfl, dmaIteration_wait h (unitCycle_wait i skip addr _) (by omega)
          (.inr (Nat.pos_of_ne_zero hdebt))⟩
  case isFalse he =>
    split
    case isTrue hput =>
      simp only [Bool.and_eq_true, decide_eq_true_eq] at hput
      exact ⟨_, _, _, _, rfl, dmaIteration_put h (unitCycle_write i latch _) hput.1 hput.2⟩
    case isFalse hput =>
      simp only [Bool.and_eq_true, decide_eq_true_eq] at hput
      have hn : n % 2 = 0 := by
        by_contra hn
        exact hput ⟨(hw (by omega)).1, by omega⟩
      exact ⟨_, _, _, _, rfl, dmaIteration_wait h (unitCycle_wait i skip addr _) hn
        (.inl (by omega))⟩

/-- With the budget as fuel the loop ends with no DMA pending. -/
theorem dmaLoop_ends {n : Nat} {b : Bus} {fuel : Nat} (h : DmaAligned n b)
    (hf : dmaBudget n b ≤ fuel) (i skip : Bool) (addr : Word) (idx latch : Byte) :
    (dmaLoop i skip addr fuel idx n latch b).oamDma = false ∧
    (dmaLoop i skip addr fuel idx n latch b).dmcDma = false := by
  induction fuel generalizing idx n latch b with
  | zero =>
    cases hin : b.inputs with
    | cons inp rest => rw [dmaBudget, hin] at hf; simp at hf
    | nil =>
      have hgoing := h.going
      rw [dmaBudget_of_inputs_nil hin, dmaLeft] at hf
      cases ho : b.oamDma
      · cases hd : b.dmcDma
        · exact ⟨ho, hd⟩
        · simp [hd] at hf
      · have := hgoing ho
        rw [ho, if_pos rfl] at hf
        omega
  | succ fuel ih =>
    cases hp : b.oamDma || b.dmcDma with
    | false =>
      rw [dmaLoop, if_neg (by simp [hp])]
      exact Bool.or_eq_false_iff.1 hp
    | true =>
      obtain ⟨idx', n', latch', c, he, hc, hlt⟩ := dmaLoop_step h hp i skip addr fuel idx latch
      rw [he]
      exact ih hc (by omega) idx' latch'

/-- `RunDma`'s first cycle, which pays the halt cycle. -/
def haltCycle (i : Bool) (addr : Word) (b : Bus) : Bus :=
  { (b.readCycle i addr).2 with halt := false }

theorem runDma_eq (i : Bool) (addr : Word) (b : Bus) :
    runDma i addr b = dmaLoop i (dmaSkips addr) addr ((haltCycle i addr b).inputs.length + 600)
      0 0 0 (haltCycle i addr b) := rfl

/-- `RunDma` gives its loop more fuel than the budget. -/
theorem runDma_ends (i : Bool) (addr : Word) (b : Bus) :
    (runDma i addr b).oamDma = false ∧ (runDma i addr b).dmcDma = false := by
  have hstart : DmaAligned 0 (haltCycle i addr b) := ⟨fun hn => by omega, fun _ => by omega⟩
  have hbudget := dmaBudget_le 0 (haltCycle i addr b)
  rw [runDma_eq]
  exact dmaLoop_ends hstart (by omega) i (dmaSkips addr) addr 0 0

/-- What a run adds to the trace, and where it writes. -/
theorem BusRun.trace_writes {W : Word → Prop} {b c : Bus} (h : BusRun W b c) :
    ∃ evs, c.trace = evs ++ b.trace ∧ ∀ a v, BusEvent.write a v ∈ evs → W a := by
  refine h.preserves
    (P := fun d => ∃ evs, d.trace = evs ++ b.trace ∧ ∀ a v, BusEvent.write a v ∈ evs → W a)
    ⟨[], rfl, by simp⟩ ?_ ?_ ?_ ?_ ?_
  · rintro d i a ⟨evs, he, hW⟩
    exact ⟨_ :: evs, by rw [readCycle_trace, he]; rfl, by simpa using hW⟩
  · rintro d i a v ha ⟨evs, he, hW⟩
    refine ⟨_ :: evs, by rw [writeCycle_trace, he]; rfl, fun a' v' hmem => ?_⟩
    rcases List.mem_cons.1 hmem with heq | hmem
    · obtain ⟨rfl, -⟩ := BusEvent.write.inj heq
      exact ha
    · exact hW a' v' hmem
  · rintro d i ⟨evs, he, hW⟩
    exact ⟨_ :: evs, by rw [idleCycle_trace, he]; rfl, by simpa using hW⟩
  · exact fun _ _ _ _ _ _ hd => hd
  · exact fun _ _ _ _ hd => hd

end Sys2Proof.Machine

namespace Sys2Proof

open Machine

/-- Settles O49: the loop's budget goes down with every iteration, and the whole routine is a run whose
writes are the DMA unit's. -/
theorem dmaEnds : Obligations.DmaEnds := by
  intro i addr b
  obtain ⟨hoam, hdmc⟩ := runDma_ends i addr b
  have hrun := runDma_run i addr b
  exact ⟨hoam, hdmc, hrun.mem_eq dmaWrites_memKey, hrun.trace_writes⟩

end Sys2Proof

namespace Sys2Proof.Machine

/-! ## An OAM DMA with no DMC DMA about (60_exceptions.md R332) -/

theorem dmaLoop_done {b : Bus} (h1 : b.oamDma = false) (h2 : b.dmcDma = false) (i skip : Bool)
    (addr : Word) (fuel : Nat) (idx : Byte) (n : Nat) (latch : Byte) :
    dmaLoop i skip addr fuel idx n latch b = b := by
  cases fuel with
  | zero => rfl
  | succ fuel => simp [dmaLoop, h1, h2]

/-- From `b0` by bus cycles: no DMC DMA runs and none is to come, the halt cycle is paid, and the page is
still that of `b0`. -/
structure OamAlone (b0 b : Bus) : Prop where
  run   : BusRun DmaWrites b0 b
  dmc   : b.dmcDma = false
  halt  : b.halt = false
  page  : b.oamDmaPage = b0.oamDmaPage
  quiet : ∀ inp ∈ b.inputs, inp.dmcReq = none

/-- The RAM byte that the page's byte `k` is. -/
def oamSource (b : Bus) (k : Nat) : Byte :=
  Memory.byteAt b.mem ((b.oamDmaPage.toNat * 256 + k) % 0x800)

/-- From `b` to `c` byte `k` of the page was read as `v` and written, in two cycles. -/
structure ByteCopied (b0 b c : Bus) (k : Nat) (v : Byte) : Prop where
  alone : OamAlone b0 c
  going : c.oamDma = decide (k + 1 < 256)
  cycle : c.cycle = b.cycle + 2
  trace : c.trace = .write 0x2004#16 v :: .read (mk16 b0.oamDmaPage (BitVec.ofNat 8 k)) v :: b.trace
  value : b0.oamDmaPage.toNat < 0x20 → v = oamSource b0 k

/-- A running OAM DMA that is ended under a condition runs on exactly where the condition fails. -/
theorem ite_oamDma (p : Prop) [Decidable p] {b : Bus} (ho : b.oamDma = true) :
    (if p then { b with oamDma := false } else b) = { b with oamDma := decide (¬ p) } := by
  split
  case isTrue h => rw [decide_eq_false (not_not_intro h)]
  case isFalse h => rw [decide_eq_true h, ← ho]

section Iterations
variable {b : Bus} (i skip : Bool) (addr : Word) (ho : b.oamDma = true) (hodd : b.cycle % 2 = 1)
  (fuel : Nat) (idx : Byte) {n : Nat} (latch : Byte)
include ho hodd

/-- Out of step, an OAM DMA waits one cycle. -/
theorem dmaLoop_oamWait (hn : n % 2 = 0) :
    dmaLoop i skip addr (fuel + 1) idx n latch b =
      dmaLoop i skip addr fuel idx n latch (dmaWait i skip addr (dmaPayDebt b)) := by
  simp [dmaLoop, ho, hodd, hn]

/-- The write cycle of an OAM DMA, which ends with its last one. -/
theorem dmaLoop_oamPut (hn : n % 2 = 1) :
    dmaLoop i skip addr (fuel + 1) idx n latch b =
      dmaLoop i skip addr fuel idx (n + 1) latch
        { (dmaPayDebt b).writeCycle i 0x2004#16 latch with oamDma := decide (n + 1 ≠ 512) } := by
  have hoam : ((dmaPayDebt b).writeCycle i 0x2004#16 latch).oamDma = true := by
    simpa [ho] using (unitCycle_write i latch (dmaPayDebt b)).oam
  rw [← ite_oamDma (n + 1 = 512) hoam]
  simp [dmaLoop, ho, hodd, hn]

end Iterations

section OamAlone
variable {b0 b : Bus} (h : OamAlone b0 b) (i skip : Bool) (addr : Word)
include h

/-- A cycle of the DMA unit keeps the OAM DMA alone. -/
theorem OamAlone.cycle {c : Bus} (hc : UnitCycle (dmaPayDebt b) c) (hrun : BusRun DmaWrites b0 c) :
    OamAlone b0 c := by
  have hquiet : ∀ inp ∈ (dmaPayDebt b).inputs, inp.dmcReq = none := by simpa using h.quiet
  obtain ⟨hhalt, hdmc, -⟩ := hc.dmc hquiet
  refine ⟨hrun, by simpa [h.dmc] using hdmc, ?_, by simpa [h.page] using hc.page, ?_⟩
  · rw [hhalt, dmaPayDebt_noHalt h.halt]
    exact h.halt
  · rw [hc.inputs]
    exact mem_tail hquiet

/-- The read cycle of an OAM DMA. -/
theorem OamAlone.loop_get (ho : b.oamDma = true) (he : b.cycle % 2 = 0) (fuel : Nat) (idx : Byte)
    (n : Nat) (latch : Byte) :
    dmaLoop i skip addr (fuel + 1) idx n latch b =
      dmaLoop i skip addr fuel (idx + 1) (n + 1)
        ((dmaPayDebt b).readCycle i (mk16 b0.oamDmaPage idx)).1
        ((dmaPayDebt b).readCycle i (mk16 b0.oamDmaPage idx)).2 := by
  simp [dmaLoop, ho, he, h.dmc, h.page]

/-- A page of RAM answers with the byte RAM holds. -/
theorem OamAlone.get_value (hp : b0.oamDmaPage.toNat < 0x20) {k : Nat} (hk : k < 256) :
    ((dmaPayDebt b).readCycle i (mk16 b0.oamDmaPage (BitVec.ofNat 8 k))).1 = oamSource b0 k := by
  have haddr : (mk16 b0.oamDmaPage (BitVec.ofNat 8 k)).toNat = b0.oamDmaPage.toNat * 256 + k := by
    rw [mk16_toNat, BitVec.toNat_ofNat]
    omega
  rw [readCycle_val_ram i _ (by omega), haddr, (dmaPayDebt_run h.run).mem_eq dmaWrites_memKey]
  rfl

/-- In step, two iterations copy one byte. -/
theorem OamAlone.loop_byte (ho : b.oamDma = true) (he : b.cycle % 2 = 0) {k : Nat} (hk : k < 256)
    (fuel : Nat) (latch : Byte) :
    ∃ v c, dmaLoop i skip addr (fuel + 2) (BitVec.ofNat 8 k) (2 * k) latch b =
        dmaLoop i skip addr fuel (BitVec.ofNat 8 (k + 1)) (2 * (k + 1)) v c ∧
      ByteCopied b0 b c k v := by
  have hval := fun hp => h.get_value i hp hk
  have hget := unitCycle_read i (mk16 b0.oamDmaPage (BitVec.ofNat 8 k)) (dmaPayDebt b)
  have halone := h.cycle hget ((dmaPayDebt_run h.run).read i _)
  have htrace := readCycle_trace i (mk16 b0.oamDmaPage (BitVec.ofNat 8 k)) (dmaPayDebt b)
  have hloop := h.loop_get i skip addr ho he (fuel + 1) (BitVec.ofNat 8 k) (2 * k) latch
  generalize (dmaPayDebt b).readCycle i (mk16 b0.oamDmaPage (BitVec.ofNat 8 k)) = r
    at hval hget halone htrace hloop
  have hcycle : r.2.cycle = b.cycle + 1 := by simpa using hget.cycle
  have ho' : r.2.oamDma = true := by simpa [ho] using hget.oam
  have hput := unitCycle_write i r.1 (dmaPayDebt r.2)
  have halone' := halone.cycle hput ((dmaPayDebt_run halone.run).write i r.1 rfl)
  have hidx : BitVec.ofNat 8 k + 1 = BitVec.ofNat 8 (k + 1) := by
    rw [BitVec.ofNat_add]
    rfl
  rw [dmaLoop_oamPut i skip addr ho' (by omega) fuel _ r.1 (by omega), hidx] at hloop
  refine ⟨r.1, _, hloop, ⟨halone'.run.dma _ _ _ _ _, halone'.dmc, halone'.halt, halone'.page,
    halone'.quiet⟩, ?_, ?_, ?_, hval⟩
  · rw [decide_eq_decide]
    omega
  · rw [hput.cycle, dmaPayDebt_cycle, hcycle]
  · rw [writeCycle_trace, dmaPayDebt_trace, htrace, dmaPayDebt_trace]

end OamAlone

/-- From `b` to `c` the bytes `vs` of the page were copied, from byte `k` on. -/
structure PageCopied (b0 b c : Bus) (k : Nat) (vs : List Byte) : Prop where
  trace : c.trace = (oamEvents b0.oamDmaPage k vs).reverse ++ b.trace
  cycle : c.cycle = b.cycle + 2 * vs.length
  halt  : c.halt = false
  value : b0.oamDmaPage.toNat < 0x20 → vs = (List.range' k vs.length).map (oamSource b0)

theorem ByteCopied.cons {b0 b c d : Bus} {k : Nat} {v : Byte} {vs : List Byte}
    (h : ByteCopied b0 b c k v) (h' : PageCopied b0 c d (k + 1) vs) :
    PageCopied b0 b d k (v :: vs) where
  trace := by rw [h'.trace, h.trace]; simp [oamEvents]
  cycle := by rw [h'.cycle, h.cycle, List.length_cons]; omega
  halt := h'.halt
  value hp := by
    rw [List.length_cons, List.range'_succ, List.map_cons, ← h.value hp, ← h'.value hp]

/-- In step, the loop copies the `m` bytes of the page that are left, and ends. -/
theorem OamAlone.loop_copies {b0 : Bus} (i skip : Bool) (addr : Word) (m : Nat) {b : Bus} {k fuel : Nat}
    (latch : Byte) (h : OamAlone b0 b) (ho : b.oamDma = decide (0 < m)) (he : b.cycle % 2 = 0)
    (hk : k + m = 256) (hf : 2 * m ≤ fuel) :
    ∃ vs, vs.length = m ∧
      PageCopied b0 b (dmaLoop i skip addr fuel (BitVec.ofNat 8 k) (2 * k) latch b) k vs := by
  induction m generalizing b k fuel latch with
  | zero =>
    rw [dmaLoop_done ho h.dmc]
    exact ⟨[], rfl, rfl, rfl, h.halt, fun _ => rfl⟩
  | succ m ih =>
    obtain ⟨f, rfl⟩ : ∃ f, fuel = f + 2 := ⟨fuel - 2, by omega⟩
    obtain ⟨v, c, hloop, hbyte⟩ :=
      h.loop_byte i skip addr (by simpa using ho) he (by omega : k < 256) f latch
    have hgoing : c.oamDma = decide (0 < m) := by
      rw [hbyte.going, decide_eq_decide]
      omega
    obtain ⟨vs, hlen, hpage⟩ := ih (k := k + 1) v hbyte.alone hgoing (by rw [hbyte.cycle]; omega)
      (by omega) (by omega : 2 * m ≤ f)
    rw [hloop]
    exact ⟨v :: vs, by simp [hlen], hbyte.cons hpage⟩

/-- The halt cycle, and one alignment cycle where it is due, bring the OAM DMA into step. -/
theorem runDma_oam_start (i : Bool) (addr : Word) {b : Bus} (ho : b.oamDma = true)
    (hd : b.dmcDma = false) (hq : ∀ inp ∈ b.inputs, inp.dmcReq = none) :
    ∃ wait c fuel, runDma i addr b = dmaLoop i (dmaSkips addr) addr fuel 0 0 0 c ∧ 512 ≤ fuel ∧
      OamAlone b c ∧ c.oamDma = true ∧ c.cycle % 2 = 0 ∧
      wait.length = (if b.cycle % 2 = 1 then 1 else 2) ∧ c.trace = wait ++ b.trace ∧
      c.cycle = b.cycle + wait.length := by
  have hread := unitCycle_read i addr b
  have hrun := (BusRun.refl (W := DmaWrites) (b := b)).read i addr
  have halone : OamAlone b (haltCycle i addr b) :=
    ⟨hrun.dma _ _ false _ _, (hread.dmc hq).2.1.trans hd, rfl, hread.page,
      fun inp hi => mem_tail hq inp (hread.inputs ▸ hi)⟩
  have ho' : (haltCycle i addr b).oamDma = true := hread.oam.trans ho
  have hcycle : (haltCycle i addr b).cycle = b.cycle + 1 := hread.cycle
  have htrace : (haltCycle i addr b).trace = [.read addr (b.readCycle i addr).1] ++ b.trace :=
    readCycle_trace i addr b
  rw [runDma_eq]
  by_cases hc : b.cycle % 2 = 1
  · exact ⟨_, _, _, rfl, by omega, halone, ho', by omega, by rw [if_pos hc]; rfl, htrace, hcycle⟩
  · have hwait := unitCycle_wait i (dmaSkips addr) addr (dmaPayDebt (haltCycle i addr b))
    have hwrun := dmaWait_run (dmaPayDebt_run halone.run) i (dmaSkips addr) addr
    obtain ⟨e, he, -⟩ := dmaWait_event i addr (dmaPayDebt (haltCycle i addr b))
    refine ⟨[e, .read addr (b.readCycle i addr).1], _, _,
      dmaLoop_oamWait i _ addr ho' (by omega) (_ + 599) 0 0 rfl, by omega,
      halone.cycle hwait hwrun, ?_, ?_, by rw [if_neg hc]; rfl, ?_, ?_⟩
    · rw [hwait.oam, dmaPayDebt_oamDma, ho']
    · rw [hwait.cycle, dmaPayDebt_cycle]; omega
    · rw [he, dmaPayDebt_trace, htrace]; rfl
    · rw [hwait.cycle, dmaPayDebt_cycle, hcycle]; rfl

end Sys2Proof.Machine

namespace Sys2Proof

open Machine

/-- Settles O48: in step after the halt cycle and the alignment cycle, the loop copies byte by byte. -/
theorem oamDmaCopies : Obligations.OamDmaCopies := by
  intro i addr b ho hd hq
  obtain ⟨wait, c, fuel, hrun, hfuel, halone, hoc, heven, hwait, htrace, hcycle⟩ :=
    runDma_oam_start i addr ho hd hq
  obtain ⟨vs, hlen, hpage⟩ := halone.loop_copies i (dmaSkips addr) addr 256 (k := 0) 0 hoc heven rfl
    hfuel
  obtain ⟨hend, hend'⟩ := runDma_ends i addr b
  have hmem := (runDma_run i addr b).mem_eq dmaWrites_memKey
  rw [show dmaLoop i (dmaSkips addr) addr fuel (BitVec.ofNat 8 0) (2 * 0) 0 c = runDma i addr b from
    hrun.symm] at hpage
  refine ⟨vs, wait, hlen, hwait, ?_, ?_, ?_, hmem, fun hp k hk => ?_⟩
  · rw [hpage.trace, htrace, List.append_assoc]
  · rw [hpage.cycle, hcycle, hwait, hlen]
    split <;> rfl
  · rw [Bus.dmaPending, hpage.halt, hend, hend']
    rfl
  · rw [hpage.value hp, hlen, List.getElem?_map, List.getElem?_range' hk, Option.map_some]
    simp [oamSource]

end Sys2Proof

namespace Sys2Proof.Machine

/-! ## A DMC DMA with no OAM DMA about (60_exceptions.md R331, R332, R333 b) -/

/-- The DMC DMA's registers after any kind of cycle are those after its catch-up: no access touches
them. -/
theorem dmc_of_cycle (i : Bool) (addr : Word) (v : Byte) (b : Bus) :
    ∀ c ∈ [(b.readCycle i addr).2, b.writeCycle i addr v, b.idleCycle i],
      c.dmcDma = (beginCycle b).dmcDma ∧ c.halt = (beginCycle b).halt ∧
      c.dummyRead = (beginCycle b).dummyRead ∧ c.dmcDmaAddr = (beginCycle b).dmcDmaAddr := by
  simp only [List.forall_mem_cons, List.not_mem_nil, false_imp_iff, implies_true, and_true]
  refine ⟨?_, ?_, ⟨rfl, rfl, rfl, rfl⟩⟩
  · simp only [Bus.readCycle]
    rw [busRead_frame]
    exact ⟨rfl, rfl, rfl, rfl⟩
  · simp only [Bus.writeCycle]
    rw [busWrite_frame]
    exact ⟨rfl, rfl, rfl, rfl⟩

/-- After the halt cycle the DMC DMA is alone, and owes the dummy cycle still. -/
theorem dmcAlone_haltCycle (i : Bool) (addr : Word) {b : Bus} (hd : b.dmcDma = true)
    (ho : b.oamDma = false) (hq : ∀ inp ∈ b.inputs, inp.dmcReq = none) :
    DmcAlone b (haltCycle i addr b) ∧ (haltCycle i addr b).dummyRead = b.dummyRead := by
  obtain ⟨-, hdmc, hdummy, haddr⟩ := readCycle_dma i addr hq
  have hrun := (BusRun.refl (W := DmaWrites) (b := b)).read i addr
  refine ⟨⟨hrun.dma _ _ false _ _, (readCycle_oamDma i addr b).trans ho, hdmc.trans hd, rfl, haddr,
    ?_⟩, hdummy⟩
  rw [show (haltCycle i addr b).inputs = b.inputs.tail from readCycle_inputs i addr b]
  exact mem_tail hq

/-- The read of the DMC DMA: no DMA is pending once its flag is cleared, and a readable window of a plain
cartridge yields its listed byte. -/
theorem DmcAlone.readCycle {b0 b : Bus} (h : DmcAlone b0 b) (i : Bool) :
    (0x4020 ≤ b0.dmcDmaAddr.toNat → b0.plain →
      windowAccess b0.windows b0.dmcDmaAddr.toNat ≠ .none →
      (b.readCycle i b0.dmcDmaAddr).1 = Memory.byteAt b0.mem b0.dmcDmaAddr.toNat) ∧
    ∀ buffer, ({ (b.readCycle i b0.dmcDmaAddr).2 with
      dmcDma := false, dmcBuffer := buffer } : Bus).dmaPending = false := by
  refine ⟨fun haddr hplain hwindow => ?_, fun buffer => ?_⟩
  · obtain ⟨hplain', hwindows⟩ := h.run.plain hplain
    rw [readCycle_val_cart i b haddr hplain' (hwindows ▸ hwindow), h.run.mem_eq dmaWrites_memKey]
  · obtain ⟨hhalt, -⟩ := readCycle_dma i b0.dmcDmaAddr h.quiet
    simp only [Bus.dmaPending, hhalt, h.halt, readCycle_oamDma, h.oam]
    rfl

/-- A waiting cycle as the trace shows it: the delayed read again, or nothing where that read is of a
controller register. -/
def waitAccess (addr : Word) : Option (Bool × Word) :=
  if addr = 0x4016#16 ∨ addr = 0x4017#16 then none else rd addr

/-- `c` comes from `b` by `n` waiting cycles after a halt cycle, and the DMC DMA may read next. -/
structure DmcReady (b : Bus) (addr : Word) (n : Nat) (c : Bus) : Prop where
  alone : DmcAlone b c
  dummy : c.dummyRead = false
  even  : c.cycle % 2 = 0
  cycle : c.cycle = b.cycle + (n + 1)
  waits : ∃ waits, c.trace = waits ++ b.trace ∧
    waits.map eventAccess = List.replicate n (waitAccess addr) ++ [rd addr]

/-- The loop waits until the dummy cycle is paid and the slot is one to read in. -/
theorem runDma_dmc_waits (i : Bool) (addr : Word) {b : Bus} (hd : b.dmcDma = true)
    (hdummy : b.dummyRead = true) (ho : b.oamDma = false)
    (hq : ∀ inp ∈ b.inputs, inp.dmcReq = none) :
    ∃ fuel c, runDma i addr b = dmaLoop i (dmaSkips addr) addr (fuel + 2) 0 0 0 c ∧
      DmcReady b addr (if b.cycle % 2 = 0 then 1 else 2) c := by
  obtain ⟨h1, hdummy1⟩ := dmcAlone_haltCycle i addr hd ho hq
  rw [hdummy] at hdummy1
  have hcycle1 : (haltCycle i addr b).cycle = b.cycle + 1 := readCycle_cycle i addr b
  have htrace1 : (haltCycle i addr b).trace = .read addr (b.readCycle i addr).1 :: b.trace :=
    readCycle_trace i addr b
  obtain ⟨h2, hdummy2, hcycle2⟩ := h1.wait i (dmaSkips addr) addr
  obtain ⟨e2, htrace2, hevent2⟩ := dmaWait_event i addr (dmaPayDebt (haltCycle i addr b))
  have hloop1 := fun fuel => h1.loop_wait (.inr hdummy1) i (dmaSkips addr) addr fuel 0 0 0
  rw [runDma_eq]
  generalize dmaWait i (dmaSkips addr) addr (dmaPayDebt (haltCycle i addr b)) = c2 at *
  rw [dmaPayDebt_trace, htrace1] at htrace2
  by_cases hc : b.cycle % 2 = 0
  · rw [if_pos hc]
    refine ⟨_ + 597, c2, hloop1 (_ + 599), h2, hdummy2, by omega, by omega,
      [e2, .read addr (b.readCycle i addr).1], htrace2, ?_⟩
    rw [List.map_cons, hevent2]
    rfl
  · obtain ⟨h3, hdummy3, hcycle3⟩ := h2.wait i (dmaSkips addr) addr
    obtain ⟨e3, htrace3, hevent3⟩ := dmaWait_event i addr (dmaPayDebt c2)
    have hloop2 := fun fuel => h2.loop_wait (.inl (by omega)) i (dmaSkips addr) addr fuel 0 0 0
    rw [dmaPayDebt_trace, htrace2] at htrace3
    rw [if_neg hc]
    refine ⟨_ + 596, _, (hloop1 (_ + 599)).trans (hloop2 (_ + 598)), h3, hdummy3, by omega, by omega,
      [e3, e2, .read addr (b.readCycle i addr).1], htrace3, ?_⟩
    rw [List.map_cons, List.map_cons, hevent2, hevent3]
    rfl

end Sys2Proof.Machine

namespace Sys2Proof

open Machine

/-- Settles O60: the request is the catch-up's; and after the waiting cycles the loop reads the byte,
hands it over and ends. -/
theorem dmcDmaReads : Obligations.DmcDmaReads := by
  refine ⟨fun i addr target v b inp rest hin hreq c hc => ?_, fun i addr b hd hdummy ho hq => ?_⟩
  · obtain ⟨h1, h2, h3, h4⟩ := beginCycle_request hin hreq
    have hflags := dmc_of_cycle i addr v b c hc
    rwa [h1, h2, h3, h4] at hflags
  · obtain ⟨fuel, c, hrun, hready⟩ := runDma_dmc_waits i addr hd hdummy ho hq
    obtain ⟨waits, htrace, hwaits⟩ := hready.waits
    obtain ⟨hval, hpending⟩ := hready.alone.readCycle i
    have hmem := (runDma_run i addr b).mem_eq dmaWrites_memKey
    rw [hrun, hready.alone.loop_read hready.even hready.dummy] at hmem ⊢
    refine ⟨(c.readCycle i b.dmcDmaAddr).1, waits, ?_, hwaits, rfl, ?_, hpending _, hmem, hval⟩
    · rw [readCycle_trace, htrace]
      rfl
    · rw [readCycle_cycle, hready.cycle]
      split <;> rfl

end Sys2Proof

/-! SUPPORT. Proofs of the statements of 70_reset_and_hazards.md, what the two resets leave and how
many cycles a step takes; and of the unstable opcodes of 46_unofficial.md. -/

namespace Sys2Proof.Machine

/-! ## The memory a Hard reset leaves (70_reset_and_hazards.md R391) -/

/-- Dropping entries by their key leaves the bytes at the other keys. -/
theorem Memory.read?_filter (f : Nat → Bool) (m : Memory) (k : Nat) :
    Memory.read? (m.filter fun c => f c.1) k = if f k then Memory.read? m k else none := by
  induction m with
  | nil => simp [Memory.read?]
  | cons c rest ih =>
    obtain ⟨j, v⟩ := c
    by_cases hj : f j
    · rw [List.filter_cons_of_pos (p := fun c : Host.Cell => f c.1) hj, Memory.read?, Memory.read?,
        ih]
      by_cases hjk : j = k
      · rw [if_pos hjk, if_pos hjk, if_pos (hjk ▸ hj)]
      · rw [if_neg hjk, if_neg hjk]
    · rw [List.filter_cons_of_neg (p := fun c : Host.Cell => f c.1) hj, Memory.read?, ih]
      by_cases hjk : j = k
      · rw [if_neg (hjk ▸ hj), if_neg (hjk ▸ hj)]
      · rw [if_neg hjk]

/-- A byte whose key was kept reads as before, any other one as a byte that nothing has written. -/
theorem Memory.byteAt_filter (f : Nat → Bool) (m : Memory) (k : Nat) :
    Memory.byteAt (m.filter fun c => f c.1) k =
      if f k then Memory.byteAt m k else Memory.unlisted k := by
  rw [Memory.byteAt, Memory.read?_filter]
  split <;> rfl

/-! ## What both resets leave on the bus side (70_reset_and_hazards.md R393) -/

theorem resetBus_resetCommon {s : State} (hi : s.p.i = true) :
    ∃ l h, (resetCommon s).pc = mk16 h l ∧ ResetBus s (resetCommon s) l h := by
  obtain ⟨l, h, hpc, hlow, hhigh⟩ := resetCommon_pc s
  obtain ⟨hcycle, -, hoam, hirq⟩ := resetCommon_bus s
  obtain ⟨hrun, hprev⟩ := resetCommon_runIrq s hi
  refine ⟨l, h, hpc, hcycle, hirq, hrun, hprev, fun hline hport => ?_, hoam, fun hquiet => ?_,
    hlow, hhigh⟩
  · obtain ⟨hnmi, hprevNmi, hlinePrev, -⟩ := resetCommon_lineLow s hline hport
    exact ⟨hnmi, hprevNmi, hlinePrev⟩
  · obtain ⟨hdma, hdummy⟩ := resetCommon_noDma s hquiet
    exact ⟨hdma.1, hdummy⟩

/-- `ResetBus` looks at no more of the state before the reset than this. -/
theorem ResetBus.of_eq {s s' t : State} {l h : Byte} (hr : ResetBus s' t l h)
    (hline : s'.bus.nmiLine = s.bus.nmiLine) (hinputs : s'.bus.inputs = s.bus.inputs)
    (hwindows : s'.bus.windows = s.bus.windows)
    (hlow : Memory.byteAt s'.bus.mem 0xFFFC = Memory.byteAt s.bus.mem 0xFFFC)
    (hhigh : Memory.byteAt s'.bus.mem 0xFFFD = Memory.byteAt s.bus.mem 0xFFFD) :
    ResetBus s t l h := by
  unfold ResetBus at hr ⊢
  rwa [hline, hinputs, hwindows, hlow, hhigh] at hr

/-- What a Hard reset sets before the common part. -/
def powerOn (s : State) : State :=
  { s with a := 0, x := 0, y := 0, sp := 0xFD#8,
           p := { c := false, z := false, i := true, d := false, v := false, n := false },
           bus := { s.bus with mem := s.bus.mem.filter (fun c => decide (0x800 ≤ c.1)),
                               ppu := { s.bus.ppu with warmup := true } } }

theorem hardReset_eq (s : State) : hardReset s = resetCommon (powerOn s) := rfl

theorem powerOn_p (s : State) : (powerOn s).p.toByte = 0x24#8 := by
  show Flags.toByte { c := false, z := false, i := true, d := false, v := false, n := false } = _
  decide

/-- Internal RAM reads as RAM_INIT, the cartridge as before. -/
theorem powerOn_byteAt (s : State) (k : Nat) :
    Memory.byteAt (powerOn s).bus.mem k =
      if 0x800 ≤ k then Memory.byteAt s.bus.mem k else Memory.unlisted k := by
  rw [powerOn, Memory.byteAt_filter (fun k => decide (0x800 ≤ k))]
  simp only [decide_eq_true_eq]

/-- The vector lies in the cartridge, so forgetting internal RAM does not touch it. -/
theorem resetBus_hardReset (s : State) :
    ∃ l h, (hardReset s).pc = mk16 h l ∧ ResetBus s (hardReset s) l h := by
  obtain ⟨l, h, hpc, hbus⟩ := resetBus_resetCommon (s := powerOn s) rfl
  exact ⟨l, h, hpc, hbus.of_eq rfl rfl rfl (powerOn_byteAt s 0xFFFC) (powerOn_byteAt s 0xFFFD)⟩

theorem resetBus_softReset (s : State) :
    ∃ l h, (softReset s).pc = mk16 h l ∧ ResetBus s (softReset s) l h :=
  resetBus_resetCommon (s := { s with p := { s.p with i := true }, sp := s.sp - 3 }) rfl

theorem hardReset_mem (s : State) : (hardReset s).bus.mem = (powerOn s).bus.mem :=
  (resetCommon_bus (powerOn s)).2.1

theorem softReset_mem (s : State) : (softReset s).bus.mem = s.bus.mem :=
  (resetCommon_bus { s with p := { s.p with i := true }, sp := s.sp - 3 }).2.1

end Sys2Proof.Machine

namespace Sys2Proof

open Machine

/-- Settles O50: a Hard reset is the common part of both resets, after the registers are set and
internal RAM is forgotten. -/
theorem hardReset : Obligations.HardReset := by
  intro s hreq
  obtain ⟨l, h, hpc, hbus⟩ := resetBus_hardReset s
  refine ⟨l, h, Machine.hardReset s, step_reset hreq, rfl, rfl, rfl, rfl, powerOn_p s, hpc,
    rfl, rfl, rfl, hbus, fun k hk => ?_, fun k hk => ?_⟩
  · rw [hardReset_mem, powerOn_byteAt, if_neg (Nat.not_le.2 hk)]
  · rw [hardReset_mem, powerOn_byteAt, if_pos hk]

/-- Settles O51: a Soft reset is the common part of both resets, with I set and `SP` lowered. -/
theorem softReset : Obligations.SoftReset := by
  intro s hreq
  obtain ⟨l, h, hpc, hbus⟩ := resetBus_softReset s
  exact ⟨l, h, Machine.softReset s, step_reset hreq, rfl, rfl, rfl, rfl, rfl, hpc, rfl, rfl, rfl,
    hbus, softReset_mem s⟩

/-- Settles O54: memory is empty, the seven idle cycles are in the trace, and every line is low. -/
theorem resetInv : Obligations.ResetInv := ⟨reset_mem_wf, rfl, rfl, rfl, nofun⟩

end Sys2Proof

namespace Sys2Proof.Machine

/-! ## The length of a plan (70_reset_and_hazards.md R413) -/

/-- The cycle `Indexed` makes whether or not it crosses a page (R146). -/
def indexCycles (k : Kind) : Nat := if k = .store ∨ k = .rmw then 1 else 0

/-- The cycles of an entry's addressing mode after the fetch, where no page is crossed. -/
def modeCycles (e : Entry) : Nat :=
  match e.mode with
  | .IMP | .ACC | .ZPX | .ZPY => 1
  | .IMM | .ZP0 | .REL | .ABS => 0
  | .ABX | .ABY => indexCycles e.kind
  | .IDX => 3
  | .IDY => 2 + indexCycles e.kind
  | .IND => 2

/-- The cycles of an entry's operation, where it is no taken branch. -/
def opCycles (e : Entry) : Nat :=
  match e.kind with
  | .read => if e.mode = .IMM then 0 else 1
  | .store => 1
  | .rmw => 3
  | .acc | .branch => 0
  | .jump => if e.operation = .JSR then 3 else 0
  | .brk => 5
  | .implied =>
    match e.operation with
    | .PHA | .PHP => 1
    | .PLA | .PLP => 2
    | .RTS | .RTI => 4
    | _ => 0

/-- The base cycles of the table are those of the fetch, the mode and the operation. -/
theorem table_baseCycles : ∀ b : Byte,
    (table b).baseCycles = (table b).bytes + modeCycles (table b) + opCycles (table b) := by decide

/-- Only the kinds with an operand address have an indexed mode. -/
theorem table_indexed : ∀ b : Byte, (table b).mode ∈ [AddrMode.ABX, .ABY, .IDY] →
    (table b).kind ∈ [Kind.read, .store, .rmw] := by decide

theorem length_fetchPlan (i : Instr) (pc : Word) : (fetchPlan i pc).length = i.entry.bytes := by
  simp [fetchPlan]

/-- A page crossing costs the read kind a cycle; the other kinds always pay it. -/
theorem length_indexPlan (i : Instr) (s : State) (h : i.entry.kind ∈ [Kind.read, .store, .rmw]) :
    (indexPlan i s).length = indexCycles i.entry.kind +
      if i.entry.kind = .read ∧ crossesPage i s = true then 1 else 0 := by
  simp only [List.mem_cons, List.not_mem_nil, or_false] at h
  rcases h with hk | hk | hk
  · cases hc : crossesPage i s <;> simp [indexPlan, indexCycles, hk, hc]
  · simp [indexPlan, indexCycles, hk]
  · simp [indexPlan, indexCycles, hk]

theorem length_modePlan (i : Instr) (s : State) :
    (modePlan i s).length = modeCycles i.entry +
      if i.entry.kind = .read ∧ crossesPage i s = true then 1 else 0 := by
  have hindexed := table_indexed i.opcode
  rw [← Instr.entry] at hindexed
  unfold modePlan modeCycles
  cases hm : i.entry.mode
  case ABX | ABY => exact length_indexPlan i s (hindexed (by simp [hm]))
  case IDY =>
    have hplan := length_indexPlan i s (hindexed (by simp [hm]))
    simp only [List.length_append, hplan, List.length_cons, List.length_nil]
    omega
  all_goals simp [crossesPage, hm]

/-- Only a branch is taken. -/
theorem branchTaken_of_kind {i : Instr} (h : i.entry.kind ≠ .branch) (p : Flags) :
    branchTaken i.entry.operation p = false := by
  rw [entry_kind] at h
  generalize i.entry.operation = o at h
  cases o
  case BCC | BCS | BEQ | BNE | BMI | BPL | BVC | BVS => exact absurd rfl h
  all_goals rfl

theorem length_opPlan (nmi : Bool) (i : Instr) (s : State) :
    (opPlan nmi i s).length = opCycles i.entry +
      if branchTaken i.entry.operation s.p = true then
        (if hi (branchTarget i s) ≠ hi s.pc then 2 else 1) else 0 := by
  by_cases hb : i.entry.kind = .branch
  · simp only [opPlan, opCycles, hb]
    split
    · split <;> rfl
    · rfl
  · rw [branchTaken_of_kind hb]
    unfold opPlan opCycles
    cases hk : i.entry.kind
    case branch => exact absurd hk hb
    case implied => cases i.entry.operation <;> rfl
    case read | jump => dsimp only; split <;> rfl
    all_goals rfl

/-- The cycles of an instruction, its fetch included, are the base cycles and the extra ones. -/
theorem length_plans (nmi : Bool) (i : Instr) (pc : Word) (s : State) :
    (fetchPlan i pc ++ busPlan nmi i s).length = i.entry.baseCycles + extraCycles i s := by
  have hbase : i.entry.baseCycles = i.entry.bytes + modeCycles i.entry + opCycles i.entry :=
    table_baseCycles i.opcode
  rw [busPlan, List.length_append, List.length_append, length_fetchPlan, length_modePlan,
    length_opPlan, extraCycles, hbase]
  omega

/-! ## The cycles of the interrupt sequence (60_exceptions.md R315) -/

/-- A run asks for no DMC DMA of its own: the requests to come are among those that were to come. -/
theorem BusRun.no_request {W : Word → Prop} {b c : Bus} (h : BusRun W b c)
    (hb : ∀ inp ∈ b.inputs, inp.dmcReq = none) : ∀ inp ∈ c.inputs, inp.dmcReq = none := by
  refine h.preserves (P := fun d => ∀ inp ∈ d.inputs, inp.dmcReq = none) hb ?_ ?_ ?_ ?_ ?_
  · intro d i addr hd
    rw [readCycle_inputs]
    exact mem_tail hd
  · intro d i addr v _ hd
    rw [writeCycle_inputs]
    exact mem_tail hd
  · intro d i hd
    rw [idleCycle_inputs]
    exact mem_tail hd
  · exact fun _ _ _ _ _ _ hd => hd
  · exact fun _ _ _ _ hd => hd

/-- Three pushes and the two reads of the vector. -/
theorem takeException_cycle (brk : Bool) {s : State} (h : s.bus.noDma) :
    (takeException brk s).bus.cycle = s.bus.cycle + 5 := by
  rw [takeException_eq]
  exact (((madeQuiet_entryBus brk h).read true _).read true _).1.2

/-- Two dummy reads before those. -/
theorem interrupt_cycle {s : State} (h : s.bus.noDma) :
    (interrupt s).bus.cycle = s.bus.cycle + 7 := by
  obtain ⟨⟨-, hcycle⟩, hquiet⟩ := made_reads2 s.p.i s.pc s.pc h
  rw [interrupt_eq, takeException_cycle false hquiet]
  exact congrArg (· + 5) hcycle

theorem instructionEnd_cycle {s : State} (h : s.bus.noDma) :
    (instructionEnd s).bus.cycle =
      s.bus.cycle + if s.bus.prevRunIrq || s.bus.prevNmi then 7 else 0 := by
  unfold instructionEnd
  split
  · exact interrupt_cycle h
  · rfl

end Sys2Proof.Machine

namespace Sys2Proof

open Machine

/-- Settles O53: the fetch and `exec` make the cycles of their plans, whose number `length_plans`
gives; the interrupt sequence makes seven. -/
theorem stepCycles : Obligations.StepCycles := by
  intro s hreset hjam hquiet
  obtain ⟨hfetch, hfetched⟩ := madeQuiet_fetchInstr s hquiet
  obtain ⟨t, nmi, ht, hexec⟩ := exec_made (fetchInstr s).1 hfetched
  have hplans := length_plans nmi (fetchInstr s).1 s.pc (fetchInstr s).2
  refine ⟨t, ht, ?_, fun hpending => ⟨_, step_of_exec hreset hjam ht, instructionEnd_cycle ?_⟩⟩
  · rw [(hfetch.trans hexec).2, hplans, Nat.add_assoc]
  · obtain ⟨t', ht', -, -, -, hrun⟩ := exec_ran (fetchInstr s).1 (fetchInstr s).2
    obtain rfl : t = t' := by simpa [ht] using ht'
    exact ⟨hpending, hrun.no_request hfetched.2⟩

end Sys2Proof

namespace Sys2Proof.Machine

/-! ## The unstable opcodes (46_unofficial.md R278, R284 to R290) -/

/-- An unstable store by its operation. -/
theorem exec_unstable_of {i : Instr} {s : State} {o : Operation} (ho : i.entry.operation = o)
    (hu : isUnstable o = true) (rs : State → State)
    (hrs : ∀ l b, rs { s with latches := l, bus := b } = { rs s with latches := l, bus := b })
    (hp : (rs s).p = s.p) (hrun : ∀ s', storeRun o s' = unstableStore (unstableReg o s') (rs s')) :
    StoresThen i s (storeAddr i s) (unstableReg o s &&& (hi (indexBase i s) + 1)) (rs s) := by
  subst ho
  exact exec_unstable i s hu rs hrs hp hrun

section UnstableEffects
variable (v : Byte) (s : State)

theorem xaaEffect_eq :
    xaaEffect v s =
      { s with a := (s.a ||| s.params.xaaMagic) &&& s.x &&& v,
               p := znSpec ((s.a ||| s.params.xaaMagic) &&& s.x &&& v) s.p } :=
  (s.setA _).setZn_eq _

theorem lxaEffect_eq :
    lxaEffect v s =
      { s with a := (s.a ||| s.params.lxaMagic) &&& v, x := (s.a ||| s.params.lxaMagic) &&& v,
               p := znSpec ((s.a ||| s.params.lxaMagic) &&& v) s.p } :=
  ((s.setA _).setX _).setZn_eq _

theorem lasEffect_eq :
    lasEffect v s =
      { s with a := v &&& s.sp, x := v &&& s.sp, sp := v &&& s.sp,
               p := znSpec (v &&& s.sp) s.p } :=
  (((s.setA _).setX _).setSp _).setZn_eq _

end UnstableEffects

end Sys2Proof.Machine

namespace Sys2Proof

open Machine

/-- Settles O10: the law of the unstable stores; TAS alone leaves a register changed. -/
theorem unstableStoreResults : Obligations.UnstableStoreResults := fun _ _ =>
  ⟨fun h => exec_unstable_of h rfl id (fun _ _ => rfl) rfl fun _ => rfl,
    fun h => exec_unstable_of h rfl (fun s => s.setSp (s.a &&& s.x)) (fun _ _ => rfl) rfl
      fun _ => rfl,
    fun h => exec_unstable_of h rfl id (fun _ _ => rfl) rfl fun _ => rfl,
    fun h => exec_unstable_of h rfl id (fun _ _ => rfl) rfl fun _ => rfl⟩

/-- Settles O24: the law of the read kind, with the effect of each operation. -/
theorem unstableRegisterResults : Obligations.UnstableRegisterResults := fun i s =>
  ⟨fun h => exec_readsThen i s (kind_of i h) _ fun _ _ _ => by
      simp only [readEffect, h, xaaEffect_eq],
    fun h himm => exec_readsThen i s (kind_of i h) _ fun _ _ _ => by
      simp only [readEffect, h, if_pos himm, lxaEffect_eq],
    fun h => exec_readsThen i s (kind_of i h) _ fun _ _ _ => by
      simp only [readEffect, h, lasEffect_eq]⟩

end Sys2Proof
